-- ==== Sys2Proof/Word.lean ====
section
/-!
DEFINITION. The word types of RECKON-CORE and their plainest arithmetic: the 32-bit word and the
Word64 pair (R10, R18), and the widths of the two records (R16, R53).
-/

namespace Sys2Proof

/-- A word is 32 bits (R10); bit 0 is the least significant (R17). -/
abbrev Word := BitVec 32

/-- The 8-bit `op` field of a command record (R53). -/
abbrev OpCode := BitVec 8

/-- A command as the host presents it: one record of 136 bits, `cmd[135:0]` (R53, R61). -/
abbrev CommandRecord := BitVec 136

/-- A response as the host receives it: one record of 66 bits, `rsp[65:0]` (R55). -/
abbrev ResponseRecord := BitVec 66

/-- Word64: a pair of 32-bit words (R10); `⟨h, l⟩` is the `W(h, l)` of R18. -/
structure Word64 where
  hi : Word
  lo : Word
deriving DecidableEq, Repr

/-- `val(w) = w.hi * 2^32 + w.lo`, the unsigned value (R18, R47). -/
def Word64.val (w : Word64) : Nat := w.hi.toNat * 2 ^ 32 + w.lo.toNat

/-- `W64(x)` of a natural number: the Word64 whose `val` is `x mod 2^64` (R18). -/
def Word64.ofNat (x : Nat) : Word64 := ⟨BitVec.ofNat 32 (x / 2 ^ 32), BitVec.ofNat 32 x⟩

/-- `W64(x)` of an integer (R18). -/
def Word64.ofInt (x : Int) : Word64 := Word64.ofNat (x % 2 ^ 64).toNat

/-- `^` on Word64, both words (R17, R160). -/
def Word64.xor (a b : Word64) : Word64 := ⟨a.hi ^^^ b.hi, a.lo ^^^ b.lo⟩

/-- `|` on Word64, word by word (R17, R134). -/
def Word64.or (a b : Word64) : Word64 := ⟨a.hi ||| b.hi, a.lo ||| b.lo⟩

end Sys2Proof
end

