-- ==== Sys2Proof/Config.lean ====
section
/-!
DEFINITION. What an implementation fixes and what the spec leaves open: the open parameters of
`spec/92_eei_decisions.md` (R13, R14, R15), the fixed sizes (R11, R12), and the free value `any32()`
(R19, R90, R137).
-/

namespace Sys2Proof.Config

/-- The open parameters of the spec. They are no state of the block (R237); the model carries one
such record, unchanged, in its State (log entry 1). -/
structure Params where
  /-- `RANQ1_CONST`, "a fixed nonzero 64-bit constant", odd (R13). -/
  ranq1Const : Word64
  /-- `RANQ1_MULT`, "fixed odd 64-bit multiplier" (R14). -/
  ranq1Mult : Word64
  /-- `DIVS_NEG1_NEGATES`: does `DIVS` by -1 negate (R15, R118)? -/
  divsNeg1Negates : Bool
deriving DecidableEq, Repr

/-- The defaults of R13, R14 and R15. PRESUMED, unsafe: R13 and R14 take the two constants from the
published generator of that name, not from the source document (log entries 2 and 3). -/
def defaultParams : Params :=
  { ranq1Const := ⟨0x38ECAC5F#32, 0xB3251641#32⟩
    ranq1Mult := ⟨0x2545F491#32, 0x4F6CDD1D#32⟩
    divsNeg1Negates := true }

/-- `MAX_TOKENS = 16`: NRan keeps exactly sixteen counters (R11). -/
abbrev maxTokens : Nat := 16

/-- `DIV_ITERATIONS = 32`: 4 macro-steps of 8 bit-iterations (R12). -/
abbrev divIterations : Nat := 32

/-- `any32()`: the 32-bit value about which the spec promises nothing (R19), as a free value: the
`n`-th value drawn. It has no body, so a claim holds whatever it is (log entry 4; safe). -/
opaque any32 : Nat → Word

end Sys2Proof.Config
end

