-- ==== Sys2Proof/Machine/Flags.lean ====
section
/-!
DEFINITION. RECKON-CORE has no condition codes and no sticky flags (R28): a carry or borrow lives
inside one command, and a comparison returns its verdict as data. These are those computations: the
carries and the borrow of R100, R102, R104, and the three-way verdicts of R141, R144.
-/

namespace Sys2Proof.Machine

/-- `1 if lo < x else 0`, the unsigned wraparound comparison that detects the carry of an addition
whose low word is `lo` and one addend `x` (R83, R100). -/
def carryOut (lo x : Word) : Word := if lo < x then 1 else 0

/-- `1 if x < y else 0`, the borrow of `x - y` (R102). -/
def borrowOut (x y : Word) : Word := if x < y then 1 else 0

/-- `1 if l = 0 else 0`, the carry out of the low word when 1 is added to it (R104). -/
def incrementCarry (l : Word) : Word := if l = 0 then 1 else 0

/-- The verdict "less" or "negative": -1 as a 32-bit two's-complement integer (R141). -/
def verdictLess : Word := 0xFFFFFFFF#32

/-- The verdict "equal" or "zero" (R141). -/
def verdictEqual : Word := 0x00000000#32

/-- The verdict "greater" or "positive" (R141). -/
def verdictGreater : Word := 0x00000001#32

end Sys2Proof.Machine
end

