-- ==== Sys2Proof/Machine/Operands.lean ====
section
/-!
DEFINITION. How an operand port is read (R17, R20, R54, R58): as an unsigned word, as a
two's-complement word, as a magnitude (R109), as the candidate count after the clamp (R186, R188);
and the two's-complement reading of a Word64 (R18).
-/

namespace Sys2Proof.Machine

/-- `x[31]`: the two's-complement sign bit of a word (R17, R47). -/
def signBit (x : Word) : Bool := x.getLsbD 31

/-- `sint32(x)`: the 32 bits read as two's complement (R17). -/
def sint32 (x : Word) : Int := if signBit x then (x.toNat : Int) - 2 ^ 32 else x.toNat

/-- `sval(w)`: the two's-complement value of a Word64 (R18). -/
def sval (w : Word64) : Int := if signBit w.hi then (w.val : Int) - 2 ^ 64 else w.val

/-- `|v|` of a negative word: `(2^32 - p2) mod 2^32`, so `0x80000000` gives itself (R108, R109). -/
def magnitude (v : Word) : Word := BitVec.ofNat 32 (2 ^ 32 - v.toNat)

/-- `zext_64` of a word (R17, R148). -/
def zext64 (x : Word) : Word64 := ⟨0, x⟩

/-- `sext_64` of a word (R17, R150). -/
def sext64 (x : Word) : Word64 := ⟨if signBit x then 0xFFFFFFFF#32 else 0, x⟩

/-- Step 2 of `NSELECT`: `n >= 16` is treated as 15 (R186, R188). -/
def offeredSlots (n : Word) : Nat := if 16 ≤ n.toNat then 15 else n.toNat

end Sys2Proof.Machine
end

