-- ==== Sys2Proof/Machine/Arith.lean ====
section
/-!
DEFINITION. The arithmetic functions of WideOps and Word64, as the pseudocode of
`spec/40_wideops.md` and `spec/41_word64_arith.md` writes them, and beside the two primitives the
datapaths the spec derives for them (R83, R88).
-/

namespace Sys2Proof.Machine

/-- `wideMulAdd(a, b, c) -> (q, r)`: the two words of `a * b + c` (R80). -/
def wideMulAdd (a b c : Word) : Word × Word :=
  let t := a.toNat * b.toNat + c.toNat
  (BitVec.ofNat 32 (t / 2 ^ 32), BitVec.ofNat 32 (t % 2 ^ 32))

/-- The partial-product datapath of R83: four 16 x 16 products and three carries, every
intermediate value a word. -/
def wideMulAddDatapath (a b c : Word) : Word × Word :=
  let aL := a.extractLsb' 0 16 |>.setWidth 32
  let aH := a.extractLsb' 16 16 |>.setWidth 32
  let bL := b.extractLsb' 0 16 |>.setWidth 32
  let bH := b.extractLsb' 16 16 |>.setWidth 32
  let ll := aL * bL
  let lh := aL * bH
  let hl := aH * bL
  let hh := aH * bH
  let mid := lh + hl
  let cmid := carryOut mid lh
  let s := ll + (mid <<< 16)
  let c1 := carryOut s ll
  let r := s + c
  let c2 := carryOut r c
  (hh + (mid >>> 16) + (cmid <<< 16) + c1 + c2, r)

/-- `wideModDiv(a, c, m) -> (q, r)`: quotient and remainder of `a * 2^32 + c` by `m`. It is the
meaning of the operation only where `a < m` (R86); outside, the result is unspecified (R90) and no
command uses this function there. -/
def wideModDiv (a c m : Word) : Word × Word :=
  let d := a.toNat * 2 ^ 32 + c.toNat
  (BitVec.ofNat 32 (d / m.toNat), BitVec.ofNat 32 (d % m.toNat))

/-- The working registers of the divider (R31, R88). -/
structure DividerRegs where
  rem : Word
  lo : Word
  q : Word
deriving DecidableEq, Repr

/-- One bit-iteration of the restoring divider: shift the pair `rem, lo` left by one, subtract `m`
when the shift carried a 1 out or the shifted remainder is at least `m` (R88). -/
def dividerIteration (m : Word) (d : DividerRegs) : DividerRegs :=
  let carry := d.rem.getLsbD 31
  let rem := (d.rem <<< 1) ||| (d.lo >>> 31)
  let lo := d.lo <<< 1
  let q := d.q <<< 1
  if carry || decide (m ≤ rem) then ⟨rem - m, lo, q ||| 1⟩ else ⟨rem, lo, q⟩

/-- The loop of R88, `k` iterations. -/
def dividerLoop (m : Word) : Nat → DividerRegs → DividerRegs
  | 0, d => d
  | k + 1, d => dividerLoop m k (dividerIteration m d)

/-- The restoring divider: 32 iterations from `rem = a`, `lo = c`, `q = 0` (R12, R88). -/
def restoringDivide (a c m : Word) : Word × Word :=
  let d := dividerLoop m Config.divIterations ⟨a, c, 0⟩
  (d.q, d.rem)

/-- `add(a, b)`: word-wise, the carry of the low words into the high word (R100). -/
def add64 (a b : Word64) : Word64 :=
  let lo := a.lo + b.lo
  ⟨a.hi + b.hi + carryOut lo a.lo, lo⟩

/-- `sub(a, b)`: word-wise, the borrow of the low words out of the high word (R102). -/
def sub64 (a b : Word64) : Word64 := ⟨a.hi - b.hi - borrowOut a.lo b.lo, a.lo - b.lo⟩

/-- `negate(a)`: invert both words, add 1 to the low one with carry into the high one (R104). -/
def negate (a : Word64) : Word64 :=
  let l := ~~~a.lo + 1
  ⟨~~~a.hi + incrementCarry l, l⟩

/-- `mulScalar(a, v)`: two `wideMulAdd`s, the high word of the second discarded (R106). -/
def mulScalar (a : Word64) (v : Word) : Word64 :=
  let low := wideMulAdd a.lo v 0
  let high := wideMulAdd a.hi v low.1
  ⟨high.2, low.2⟩

/-- `mulScalarSigned(a, v)`: for `v < 0` multiply by `|v|`, then negate (R108, R109). -/
def mulScalarSigned (a : Word64) (v : Word) : Word64 :=
  if signBit v then negate (mulScalar a (magnitude v)) else mulScalar a v

/-- `mulWord64(a, b)`: three `wideMulAdd`s chained through the addend, the `hi*hi` term discarded
(R110). -/
def mulWord64 (a b : Word64) : Word64 :=
  let p := wideMulAdd a.lo b.lo 0
  let t1 := wideMulAdd a.hi b.lo p.1
  let t2 := wideMulAdd a.lo b.hi t1.2
  ⟨t2.2, p.2⟩

/-- `divScalar(a, v)`: the pass-through for `v <= 1` (R114), else the high word by `v` and then the
remainder-extended low word through `wideModDiv`, whose precondition holds (R92, R112, R113). -/
def divScalar (a : Word64) (v : Word) : Word64 :=
  if v ≤ 1 then a
  else ⟨a.hi / v, (wideModDiv (a.hi % v) a.lo v).1⟩

/-- `divScalarSigned(a, v)`: for `v < 0` divide by `|v|`, then negate (R116); for `v = -1` the
parameter `DIVS_NEG1_NEGATES` chooses between `negate(a)` and `a` (R118). -/
def divScalarSigned (neg1Negates : Bool) (a : Word64) (v : Word) : Word64 :=
  if signBit v then
    if v = 0xFFFFFFFF#32 ∧ neg1Negates = false then a
    else negate (divScalar a (magnitude v))
  else divScalar a v

end Sys2Proof.Machine
end

