-- ==== Sys2Proof/Machine/Shift.lean ====
section
/-!
DEFINITION. The shifts, rotates, sign test and comparisons of Word64, as the pseudocode of
`spec/42_word64_shift_cmp.md` writes them. The amounts here are below 64; what a command does with
a larger one is R137 (`answerShift` in Machine/Ops.lean).
-/

namespace Sys2Proof.Machine

/-- `shl(A, n)` for `0 <= n <= 63` (R130). -/
def shl64 (a : Word64) (n : Nat) : Word64 :=
  if 32 ≤ n then ⟨a.lo <<< (n - 32), 0⟩
  else if n = 0 then a
  else ⟨(a.hi <<< n) ||| (a.lo >>> (32 - n)), a.lo <<< n⟩

/-- `shr(A, n)` for `0 <= n <= 63`, zero-filling (R132). -/
def shr64 (a : Word64) (n : Nat) : Word64 :=
  if 32 ≤ n then ⟨0, a.hi >>> (n - 32)⟩
  else if n = 0 then a
  else ⟨a.hi >>> n, (a.lo >>> n) ||| (a.hi <<< (32 - n))⟩

/-- `ROTL` for `0 <= n <= 63`, from the two shifts (R134). -/
def rotl64 (a : Word64) (n : Nat) : Word64 :=
  if n = 0 then a else (shl64 a n).or (shr64 a (64 - n))

/-- `ROTR` for `0 <= n <= 63`, from the two shifts (R136). -/
def rotr64 (a : Word64) (n : Nat) : Word64 :=
  if n = 0 then a else (shr64 a n).or (shl64 a (64 - n))

/-- `sign(a)`: the top bit of `hi`, else whether either word is nonzero (R140). -/
def signVerdict (a : Word64) : Word :=
  if signBit a.hi then verdictLess
  else if a.hi ≠ 0 ∨ a.lo ≠ 0 then verdictGreater
  else verdictEqual

/-- `cmpu(A, B)`: `hi` unsigned, tie-break on `lo` unsigned (R144). -/
def compareUnsigned (a b : Word64) : Word :=
  if a.hi < b.hi then verdictLess
  else if b.hi < a.hi then verdictGreater
  else if a.lo < b.lo then verdictLess
  else if b.lo < a.lo then verdictGreater
  else verdictEqual

/-- `compareSigned(a, b)`: the sign bits first, then the order of the bit patterns (R142). -/
def compareSigned (a b : Word64) : Word :=
  if signBit a.hi ≠ signBit b.hi then
    if signBit a.hi then verdictLess else verdictGreater
  else compareUnsigned a b

end Sys2Proof.Machine
end

