-- ==== Sys2Proof/Machine/Generator.lean ====
section
/-!
DEFINITION. The functions of Ranq1 over its whole state, one Word64 (`spec/43_ranq1.md`), with the
open parameters as an argument (R13, R14).
-/

namespace Sys2Proof.Machine

/-- `advance()`: three xorshift lines and the truncating product, which is both the new state and
the value returned (R160). The document's form, not the published generator's (R178; log
entry 15). -/
def advance (p : Config.Params) (v : Word64) : Word64 :=
  let v1 := v.xor (shr64 v 21)
  let v2 := v1.xor (shl64 v1 35)
  let v3 := v2.xor (shr64 v2 4)
  mulWord64 v3 p.ranq1Mult

/-- `construct(seed)`: the constant with the seed in its low word, advanced once (R162). -/
def constructState (p : Config.Params) (seed : Word) : Word64 :=
  advance p ⟨p.ranq1Const.hi, p.ranq1Const.lo ^^^ seed⟩

/-- `seed(s)`: the state outright, neither mixed with the constant nor advanced (R164). -/
def seedState (seed : Word) : Word64 := ⟨0, seed⟩

/-- `next32()` as a state function: the low word of one advance, and the new state (R170). -/
def next32 (p : Config.Params) (v : Word64) : Word × Word64 :=
  let w := advance p v
  (w.lo, w)

end Sys2Proof.Machine
end

