-- ==== Sys2Proof/Syntax.lean ====
section
/-!
DEFINITION. The syntax of RECKON-CORE: the 29 commands of `spec/opcode_table.json` (R57), the
operand formats (R54), what decoding a record yields (R62), the response record (R55, R56), and the
inputs the block can receive (R237, U14).
-/

namespace Sys2Proof

/-- A command, with the operands its format reads (R54, R57); ports a format does not read have no
place here (R58, U10). One constructor per row of `spec/opcode_table.json`. -/
inductive Instr where
  /-- `WMULADD a, b, c`, op 0x10 (R80). -/
  | wmuladd (a b c : Word)
  /-- `WMODDIV a, c, m`, op 0x11 (R86). -/
  | wmoddiv (a c m : Word)
  /-- `ADD A, B`, op 0x20 (R100). -/
  | add (a b : Word64)
  /-- `SUB A, B`, op 0x21 (R102). -/
  | sub (a b : Word64)
  /-- `MULU A, v`, op 0x22 (R106). -/
  | mulu (a : Word64) (v : Word)
  /-- `MULS A, v`, op 0x23, `v` read as two's complement (R108). -/
  | muls (a : Word64) (v : Word)
  /-- `MUL64 A, B`, op 0x24 (R110). -/
  | mul64 (a b : Word64)
  /-- `DIVU A, v`, op 0x25 (R112). -/
  | divu (a : Word64) (v : Word)
  /-- `DIVS A, v`, op 0x26, `v` read as two's complement (R116). -/
  | divs (a : Word64) (v : Word)
  /-- `NEG A`, op 0x27 (R104). -/
  | neg (a : Word64)
  /-- `SHL A, n`, op 0x28 (R130). -/
  | shl (a : Word64) (n : Word)
  /-- `SHR A, n`, op 0x29 (R132). -/
  | shr (a : Word64) (n : Word)
  /-- `ROTL A, n`, op 0x2A (R134). -/
  | rotl (a : Word64) (n : Word)
  /-- `ROTR A, n`, op 0x2B (R136). -/
  | rotr (a : Word64) (n : Word)
  /-- `SIGN A`, op 0x2C (R140). -/
  | sign (a : Word64)
  /-- `CMPS A, B`, op 0x2D (R142). -/
  | cmps (a b : Word64)
  /-- `CMPU A, B`, op 0x2E (R144). -/
  | cmpu (a b : Word64)
  /-- `TOU32 A`, op 0x2F (R146). -/
  | tou32 (a : Word64)
  /-- `CVTU x`, op 0x30 (R148). -/
  | cvtu (x : Word)
  /-- `CVTS x`, op 0x31, `x` read as two's complement (R150). -/
  | cvts (x : Word)
  /-- `MK64 h, l`, op 0x32 (R152). -/
  | mk64 (h l : Word)
  /-- `RCONS seed`, op 0x40 (R162). -/
  | rcons (seed : Word)
  /-- `RSEED s`, op 0x41 (R164). -/
  | rseed (seed : Word)
  /-- `RRESET`, op 0x42 (R166). -/
  | rreset
  /-- `RNEXT64`, op 0x43 (R168). -/
  | rnext64
  /-- `RNEXT32`, op 0x44 (R170). -/
  | rnext32
  /-- `NBIND`, op 0x50 (R182). -/
  | nbind
  /-- `NSEED s`, op 0x51 (R184). -/
  | nseed (seed : Word)
  /-- `NSELECT n, maxMisses`, op 0x52 (R186). -/
  | nselect (n maxMisses : Word)
deriving DecidableEq, Repr

/-- The seven operand formats of R54: which ports a command reads. -/
inductive Format where
  /-- No port. -/
  | N
  /-- `p0`, a scalar. -/
  | S
  /-- `p0`, `p1`, two scalars. -/
  | SS
  /-- `p0`, `p1`, `p2`, three scalars. -/
  | T
  /-- `A = W(p0, p1)`. -/
  | A
  /-- `A = W(p0, p1)` and a scalar `p2`. -/
  | AV
  /-- `A = W(p0, p1)` and `B = W(p2, p3)`. -/
  | AB
deriving DecidableEq, Repr

/-- What a record decodes to: one of the 29 commands, or `illegal(op)` (R62). -/
inductive Decoded where
  | command (i : Instr)
  | illegal (op : OpCode)
deriving DecidableEq, Repr

/-- The response's status (R56); `status = 3` is never produced and has no name here (U9). -/
inductive Status where
  /-- `OK`, code 0: the command did what its rule says. -/
  | ok
  /-- `ILLEGAL_OP`, code 1 (R201). -/
  | illegalOp
  /-- `UNBOUND`, code 2 (R202). -/
  | unbound
deriving DecidableEq, Repr

/-- One response: a status and the two 32-bit result ports (R21, R55). -/
structure Response where
  status : Status
  r0 : Word
  r1 : Word
deriving DecidableEq, Repr

/-- One input to the block: what the host or the reset source does (R237, U14). -/
inductive Input where
  /-- The host presents a command record (R53, R238). -/
  | command (record : CommandRecord)
  /-- The reset event, between two commands (R220). -/
  | reset
  /-- The reset event while the command of this record is running (R222). -/
  | resetDuring (record : CommandRecord)
deriving DecidableEq, Repr

end Sys2Proof
end

