-- ==== Sys2Proof/Machine/State.lean ====
section
/-!
DEFINITION. The state of RECKON-CORE as plain data: the three items the spec gives the block (R23,
R24, R25, R30, R33), and the model's own fields beside them (open parameters, the inputs presented
and not yet executed, the responses given so far, the count of free values drawn). The reset state
(R33, R220).
-/

namespace Sys2Proof.Machine

/-- `NR_STATS[0..15]`: sixteen unsigned 32-bit counters (R11, R24). -/
abbrev Counters := Vector Word Config.maxTokens

/-- The state. The first three fields are the block's whole state, 577 bits (R23, R24, R25, R30);
the other four are the model's own (INVENTORY.md, "State"). -/
structure State where
  /-- `RQ_V`, the generator's state; every value is legal (R23). -/
  rqV : Word64
  /-- `NR_STATS[0..15]`, the miss-streak counters (R24). -/
  nrStats : Counters
  /-- `NR_BOUND`: is the selector attached to the generator (R25)? -/
  nrBound : Bool
  /-- The open parameters, which no step changes (R13, R14, R15; log entry 1). -/
  params : Config.Params
  /-- What has been presented to the block and not yet executed, oldest first (R45, R237, U14; log
  entry 5). -/
  pending : List Input
  /-- The responses delivered so far, oldest first (R55, R239; log entry 6). -/
  responses : List Response
  /-- How many free values `any32()` have been drawn (R19; log entry 4). -/
  draws : Nat
deriving DecidableEq, Repr

/-- No fault exists: nothing stops the block. It has no fault state and no halt, every command
completes (R236, R239), and its two errors are responses after which the next command runs (R200,
R203, R208), so they are next states here (log entry 9). No constructor: nobody raises one; safe,
since the spec gives every step an effect. -/
inductive Fault where
deriving DecidableEq, Repr

/-- Why a step is refused. Closed: only the rejection of a command that has no meaning yet. -/
inductive Refusal where
  /-- Raised by an arm of `exec` whose command is not modelled; safe, since the run stops. No arm
  of this model raises it. -/
  | notModelled (mnemonic : String)
deriving DecidableEq, Repr

/-- The machine right after the reset event, with the default parameters: R33, R220. `RQ_V` is
`advance(RANQ1_CONST)`, whose value R33 prints for the default parameters (PRESUMED parameters:
log entries 2, 3). Nothing is presented, nothing has been answered and no free value has been drawn
(DESIGN CHOICE: log entries 4, 5, 6). -/
def State.reset : State :=
  { rqV := ⟨0xA2DEE063#32, 0x3C9C1D71#32⟩
    nrStats := Vector.replicate Config.maxTokens 0
    nrBound := false
    params := Config.defaultParams
    pending := []
    responses := []
    draws := 0 }

end Sys2Proof.Machine
end

