-- ==== Sys2Proof/Machine/Ops.lean ====
section
/-!
DEFINITION. The named operations on State: one per field a command writes, delivering a response
(R21, R55), drawing free values (R19), raising an error response (R200 to R203, R208), and the
reset event (R220, R222). There is no memory (R40) and no register file (R20), so no operation
reads or writes one.
-/

namespace Sys2Proof.Machine

/-- `RQ_V <- w`. -/
def State.setRqV (w : Word64) (s : State) : State := { s with rqV := w }

/-- `NR_STATS <- v`, all sixteen at once. -/
def State.setNrStats (v : Counters) (s : State) : State := { s with nrStats := v }

/-- `NR_BOUND <- b`. -/
def State.setNrBound (b : Bool) (s : State) : State := { s with nrBound := b }

/-- The inputs still to come. -/
def State.setPending (l : List Input) (s : State) : State := { s with pending := l }

/-- One response, after all earlier ones (R55). -/
def State.respond (r : Response) (s : State) : State := { s with responses := s.responses ++ [r] }

/-- `k` more free values are used up. -/
def State.skipDraws (k : Nat) (s : State) : State := { s with draws := s.draws + k }

/-- `result64 <- w`: `r0 = w.hi`, `r1 = w.lo`, status `OK` (R19, R21, R56). -/
def answer64 (w : Word64) (s : State) : State := s.respond ⟨.ok, w.hi, w.lo⟩

/-- A pair `(q, r)`: `r0 = q`, `r1 = r`, status `OK` (R21, R56). -/
def answerPair (p : Word × Word) (s : State) : State := s.respond ⟨.ok, p.1, p.2⟩

/-- `result32 <- x`: `r0 = 0`, `r1 = x`, status `OK` (R19, R21, R56). -/
def answer32 (x : Word) (s : State) : State := s.respond ⟨.ok, 0, x⟩

/-- A command with no result: `r0 = r1 = 0`, status `OK` (R21, R56). -/
def answerNone (s : State) : State := s.respond ⟨.ok, 0, 0⟩

/-- `r0 <- any32(); r1 <- any32()` with status `OK`: two independent free values, the next two of
the stream (R90, R137, U1, U4; log entries 4, 10, 11). No state of the block is written. -/
def answerFree (s : State) : State :=
  (s.respond ⟨.ok, Config.any32 s.draws, Config.any32 (s.draws + 1)⟩).skipDraws 2

/-- A shift or rotate: the amount is the whole of `p2`; below 64 the function's result, else two
free values (R130, R132, R134, R136, R137). -/
def answerShift (f : Word64 → Nat → Word64) (a : Word64) (n : Word) (s : State) : State :=
  if n.toNat < 64 then answer64 (f a n.toNat) s else answerFree s

/-- The causes of an error response, all of them (R200). -/
inductive Cause where
  /-- A reserved `op` (R201). -/
  | illegalOp
  /-- `NSEED` or `NSELECT` with `NR_BOUND = 0` (R202). -/
  | unbound
deriving DecidableEq, Repr

/-- The status a cause is reported with (R56, R200). -/
def causeStatus : Cause → Status
  | .illegalOp => .illegalOp
  | .unbound => .unbound

/-- Raising an error: its whole effect is the response with the cause's status and `r0 = r1 = 0`;
no state is written, nothing is saved, and there is no handler (R201, R202, R203, R208). There is
nothing to return from: the next command runs from the unchanged state (R209). -/
def raise (c : Cause) (s : State) : State := s.respond ⟨causeStatus c, 0, 0⟩

/-- The reset event: `RQ_V` as `construct(0)` leaves it, the counters zero, the selector unbound
(R220, R221). What the host has presented or been given is not state of the block and stays (log
entry 8). -/
def resetEvent (s : State) : State :=
  ((s.setRqV (constructState s.params 0)).setNrStats
    (Vector.replicate Config.maxTokens 0)).setNrBound false

/-- The record presented ahead of everything that waits: how a single command reaches the block
(R238; log entry 5). -/
def presentFirst (r : CommandRecord) (s : State) : State :=
  s.setPending (.command r :: s.pending)

end Sys2Proof.Machine
end

