-- ==== Sys2Proof/Machine/Selector.lean ====
section
/-!
DEFINITION. The functions of NRan over its counters (`spec/44_nran.md`). `selectWith` is the seven
steps of R186 over an abstract `next32 : state -> u32 x state`, as R180 allows, so that the
document's scenario with a mock generator can be run as written.
-/

namespace Sys2Proof.Machine

/-- `NR_STATS[i]` by number. The rules only read slots below 15; a number above 15 names no slot and
reads as 0 here, which no command can reach (log entry 16; safe). -/
def counterAt (v : Counters) (i : Nat) : Word := if h : i < Config.maxTokens then v[i] else 0

/-- Step 3 of R186: the lowest index of the largest counter in `[0, n)`, by the linear scan that
replaces its candidate only on a strictly greater counter (R189). -/
def mostOverdue (v : Counters) : Nat → Nat
  | 0 => 0
  | k + 1 =>
    let best := mostOverdue v k
    if counterAt v best < counterAt v k then k else best

/-- Step 6 of R186: among the offered slots the chosen one is cleared and every other one counts up
modulo 2^32 (R190); slots at `n` and above keep their counters. -/
def tally (v : Counters) (n chosen : Nat) : Counters :=
  Vector.ofFn fun i => if i.val < n then (if i.val = chosen then 0 else v[i] + 1) else v[i]

/-- What `select` leaves and returns. -/
structure Selection (γ : Type) where
  result : Word
  stats : Counters
  gen : γ
deriving DecidableEq, Repr

/-- The seven steps of `select(n, maxMisses)` over a generator given by its `next32` (R180, R186,
R188, R189, R190). -/
def selectWith {γ : Type} (next : γ → Word × γ) (n maxMisses : Word) (v : Counters) (g : γ) :
    Selection γ :=
  if n = 0 then ⟨0, v, g⟩
  else
    let k := offeredSlots n
    let imin := mostOverdue v k
    if maxMisses ≤ counterAt v imin + 1 then
      ⟨BitVec.ofNat 32 (imin + 1), tally v k imin, g⟩
    else
      let draw := next g
      let chosen := draw.1.toNat % k
      ⟨BitVec.ofNat 32 (chosen + 1), tally v k chosen, draw.2⟩

end Sys2Proof.Machine
end

