-- ==== Sys2Proof/Machine/NRan.lean ====
section
/-!
DEFINITION. The NRan commands (`spec/44_nran.md`). `NSEED` and `NSELECT` check `NR_BOUND` before
anything else (R187, R202, R207).
-/

namespace Sys2Proof.Machine

/-- `NBIND`: `NR_BOUND <- 1`, no result (R182). -/
def execNbind (s : State) : Host.Outcome State Fault Refusal :=
  .next (answerNone (s.setNrBound true))

/-- `NSEED s`: all sixteen counters to 0 and the generator's `seed(s)`, no result (R184); `UNBOUND`
when not bound (R202). -/
def execNseed (seed : Word) (s : State) : Host.Outcome State Fault Refusal :=
  if s.nrBound then
    .next (answerNone ((s.setNrStats (Vector.replicate Config.maxTokens 0)).setRqV (seedState seed)))
  else .next (raise .unbound s)

/-- `NSELECT n, maxMisses`: the seven steps over the built-in generator (R180, R186); `UNBOUND` when
not bound, for every operand value (R187). -/
def execNselect (n maxMisses : Word) (s : State) : Host.Outcome State Fault Refusal :=
  if s.nrBound then
    let sel := selectWith (next32 s.params) n maxMisses s.nrStats s.rqV
    .next (answer32 sel.result ((s.setNrStats sel.stats).setRqV sel.gen))
  else .next (raise .unbound s)

end Sys2Proof.Machine
end

