-- ==== Sys2Proof/Machine/Ranq1.lean ====
section
/-!
DEFINITION. The Ranq1 commands (`spec/43_ranq1.md`). The only state they touch is `RQ_V` (R23); none of
them touches the selector.
-/

namespace Sys2Proof.Machine

/-- `RCONS seed`: construct and advance once, no result (R162). -/
def execRcons (seed : Word) (s : State) : Host.Outcome State Fault Refusal :=
  .next (answerNone (s.setRqV (constructState s.params seed)))

/-- `RSEED s`: `RQ_V <- W(0, s)`, no result (R164). -/
def execRseed (seed : Word) (s : State) : Host.Outcome State Fault Refusal :=
  .next (answerNone (s.setRqV (seedState seed)))

/-- `RRESET`: `RQ_V <- RANQ1_CONST`, not advanced, no result (R166). -/
def execRreset (s : State) : Host.Outcome State Fault Refusal :=
  .next (answerNone (s.setRqV s.params.ranq1Const))

/-- `RNEXT64`: one advance, the whole new state returned (R168). -/
def execRnext64 (s : State) : Host.Outcome State Fault Refusal :=
  .next (answer64 (advance s.params s.rqV) (s.setRqV (advance s.params s.rqV)))

/-- `RNEXT32`: one advance, its low word returned (R170). -/
def execRnext32 (s : State) : Host.Outcome State Fault Refusal :=
  .next (answer32 (next32 s.params s.rqV).1 (s.setRqV (next32 s.params s.rqV).2))

end Sys2Proof.Machine
end

