-- ==== Sys2Proof/Machine/WideOps.lean ====
section
/-!
DEFINITION. The two WideOps commands (`spec/40_wideops.md`). Neither writes any state of the block; the
multiplier and divider hold nothing between commands (R31).
-/

namespace Sys2Proof.Machine

/-- `WMULADD a, b, c`: `r0 = q`, `r1 = r` (R80). No error condition. -/
def execWmuladd (a b c : Word) (s : State) : Host.Outcome State Fault Refusal :=
  .next (answerPair (wideMulAdd a b c) s)

/-- `WMODDIV a, c, m`: quotient and remainder where `a < m` (R86); otherwise, `m = 0` included,
status `OK` and two free values (R90, U1, U2; log entry 10). -/
def execWmoddiv (a c m : Word) (s : State) : Host.Outcome State Fault Refusal :=
  if a < m then .next (answerPair (wideModDiv a c m) s) else .next (answerFree s)

end Sys2Proof.Machine
end

