-- ==== Sys2Proof/Machine/WordArith.lean ====
section
/-!
DEFINITION. The Word64 arithmetic commands (`spec/41_word64_arith.md`). Status is always `OK`; no
state is read or written but the response.
-/

namespace Sys2Proof.Machine

/-- `ADD A, B` (R100). -/
def execAdd (a b : Word64) (s : State) : Host.Outcome State Fault Refusal :=
  .next (answer64 (add64 a b) s)

/-- `SUB A, B` (R102). -/
def execSub (a b : Word64) (s : State) : Host.Outcome State Fault Refusal :=
  .next (answer64 (sub64 a b) s)

/-- `MULU A, v` (R106). -/
def execMulu (a : Word64) (v : Word) (s : State) : Host.Outcome State Fault Refusal :=
  .next (answer64 (mulScalar a v) s)

/-- `MULS A, v` (R108, R109). -/
def execMuls (a : Word64) (v : Word) (s : State) : Host.Outcome State Fault Refusal :=
  .next (answer64 (mulScalarSigned a v) s)

/-- `MUL64 A, B` (R110). -/
def execMul64 (a b : Word64) (s : State) : Host.Outcome State Fault Refusal :=
  .next (answer64 (mulWord64 a b) s)

/-- `DIVU A, v`, with the pass-through for `v <= 1` and no zero-divisor error (R112, R114). -/
def execDivu (a : Word64) (v : Word) (s : State) : Host.Outcome State Fault Refusal :=
  .next (answer64 (divScalar a v) s)

/-- `DIVS A, v`, signed in the divisor only (R116, R117); `v = -1` by the parameter (R118). -/
def execDivs (a : Word64) (v : Word) (s : State) : Host.Outcome State Fault Refusal :=
  .next (answer64 (divScalarSigned s.params.divsNeg1Negates a v) s)

/-- `NEG A` (R104). -/
def execNeg (a : Word64) (s : State) : Host.Outcome State Fault Refusal :=
  .next (answer64 (negate a) s)

end Sys2Proof.Machine
end

