-- ==== Sys2Proof/Machine/WordShift.lean ====
section
/-!
DEFINITION. The Word64 shifts, rotates, sign test, comparisons and conversions
(`spec/42_word64_shift_cmp.md`). No state is read or written but the response (and the count of
free values, for an amount of 64 or more).
-/

namespace Sys2Proof.Machine

/-- `SHL A, n` (R130, R137). -/
def execShl (a : Word64) (n : Word) (s : State) : Host.Outcome State Fault Refusal :=
  .next (answerShift shl64 a n s)

/-- `SHR A, n` (R132, R137). -/
def execShr (a : Word64) (n : Word) (s : State) : Host.Outcome State Fault Refusal :=
  .next (answerShift shr64 a n s)

/-- `ROTL A, n` (R134, R137). -/
def execRotl (a : Word64) (n : Word) (s : State) : Host.Outcome State Fault Refusal :=
  .next (answerShift rotl64 a n s)

/-- `ROTR A, n` (R136, R137). -/
def execRotr (a : Word64) (n : Word) (s : State) : Host.Outcome State Fault Refusal :=
  .next (answerShift rotr64 a n s)

/-- `SIGN A` (R140, R141). -/
def execSign (a : Word64) (s : State) : Host.Outcome State Fault Refusal :=
  .next (answer32 (signVerdict a) s)

/-- `CMPS A, B` (R141, R142). -/
def execCmps (a b : Word64) (s : State) : Host.Outcome State Fault Refusal :=
  .next (answer32 (compareSigned a b) s)

/-- `CMPU A, B` (R141, R144). -/
def execCmpu (a b : Word64) (s : State) : Host.Outcome State Fault Refusal :=
  .next (answer32 (compareUnsigned a b) s)

/-- `TOU32 A`: the low word (R146). -/
def execTou32 (a : Word64) (s : State) : Host.Outcome State Fault Refusal :=
  .next (answer32 a.lo s)

/-- `CVTU x`: zero-extended (R148). -/
def execCvtu (x : Word) (s : State) : Host.Outcome State Fault Refusal :=
  .next (answer64 (zext64 x) s)

/-- `CVTS x`: sign-extended (R150). -/
def execCvts (x : Word) (s : State) : Host.Outcome State Fault Refusal :=
  .next (answer64 (sext64 x) s)

/-- `MK64 h, l`: the operand, copied (R152). -/
def execMk64 (h l : Word) (s : State) : Host.Outcome State Fault Refusal :=
  .next (answer64 ⟨h, l⟩ s)

end Sys2Proof.Machine
end

