-- ==== Sys2Proof/Machine/Dispatch.lean ====
section
/-!
DEFINITION. One arm per command, each one direct call of the command's meaning (R57).
-/

namespace Sys2Proof.Machine

-- every command of spec/opcode_table.json has its meaning; none is rejected
def exec (i : Instr) (s : State) : Host.Outcome State Fault Refusal :=
  match i with
  | .wmuladd a b c => Sys2Proof.Machine.execWmuladd a b c s
  | .wmoddiv a c m => Sys2Proof.Machine.execWmoddiv a c m s
  | .add a b => Sys2Proof.Machine.execAdd a b s
  | .sub a b => Sys2Proof.Machine.execSub a b s
  | .mulu a v => Sys2Proof.Machine.execMulu a v s
  | .muls a v => Sys2Proof.Machine.execMuls a v s
  | .mul64 a b => Sys2Proof.Machine.execMul64 a b s
  | .divu a v => Sys2Proof.Machine.execDivu a v s
  | .divs a v => Sys2Proof.Machine.execDivs a v s
  | .neg a => Sys2Proof.Machine.execNeg a s
  | .shl a n => Sys2Proof.Machine.execShl a n s
  | .shr a n => Sys2Proof.Machine.execShr a n s
  | .rotl a n => Sys2Proof.Machine.execRotl a n s
  | .rotr a n => Sys2Proof.Machine.execRotr a n s
  | .sign a => Sys2Proof.Machine.execSign a s
  | .cmps a b => Sys2Proof.Machine.execCmps a b s
  | .cmpu a b => Sys2Proof.Machine.execCmpu a b s
  | .tou32 a => Sys2Proof.Machine.execTou32 a s
  | .cvtu x => Sys2Proof.Machine.execCvtu x s
  | .cvts x => Sys2Proof.Machine.execCvts x s
  | .mk64 h l => Sys2Proof.Machine.execMk64 h l s
  | .rcons seed => Sys2Proof.Machine.execRcons seed s
  | .rseed seed => Sys2Proof.Machine.execRseed seed s
  | .rreset => Sys2Proof.Machine.execRreset s
  | .rnext64 => Sys2Proof.Machine.execRnext64 s
  | .rnext32 => Sys2Proof.Machine.execRnext32 s
  | .nbind => Sys2Proof.Machine.execNbind s
  | .nseed seed => Sys2Proof.Machine.execNseed seed s
  | .nselect n maxMisses => Sys2Proof.Machine.execNselect n maxMisses s

end Sys2Proof.Machine
end

