-- ==== Sys2Proof/Decode.lean ====
section
/-!
DEFINITION. Decoding a 136-bit command record (R53, R54, R57, R62), encoding a command (R62, R63),
the 66-bit response record (R55, R56), and the reading of a word as `spec/opcode_table.json`
numbers its bits.
-/

namespace Sys2Proof

/-- `cmd[135:128]`, the `op` field (R53). -/
def opField (r : CommandRecord) : OpCode := r.extractLsb' 128 8

/-- `cmd[127:96]`, operand port 0 (R53). -/
def port0 (r : CommandRecord) : Word := r.extractLsb' 96 32

/-- `cmd[95:64]`, operand port 1 (R53). -/
def port1 (r : CommandRecord) : Word := r.extractLsb' 64 32

/-- `cmd[63:32]`, operand port 2 (R53). -/
def port2 (r : CommandRecord) : Word := r.extractLsb' 32 32

/-- `cmd[31:0]`, operand port 3 (R53). -/
def port3 (r : CommandRecord) : Word := r.extractLsb' 0 32

/-- The record with the given fields, `op` most significant (R53). -/
def packRecord (op : OpCode) (p0 p1 p2 p3 : Word) : CommandRecord :=
  (op ++ p0 ++ p1 ++ p2 ++ p3 : BitVec (8 + 32 + 32 + 32 + 32))

/-- The operand `A = W(p0, p1)`: the high word on the lower-numbered port (R46, R54). -/
def operandA (r : CommandRecord) : Word64 := ⟨port0 r, port1 r⟩

/-- The operand `B = W(p2, p3)` (R46, R54). -/
def operandB (r : CommandRecord) : Word64 := ⟨port2 r, port3 r⟩

/-- `decode(cmd)`, total on the 2^136 records: the opcode map of R57 with the formats of R54; every
other `op` is `illegal(op)` (R59, R62). -/
def decode (r : CommandRecord) : Decoded :=
  match opField r with
  | 0x10#8 => .command (.wmuladd (port0 r) (port1 r) (port2 r))
  | 0x11#8 => .command (.wmoddiv (port0 r) (port1 r) (port2 r))
  | 0x20#8 => .command (.add (operandA r) (operandB r))
  | 0x21#8 => .command (.sub (operandA r) (operandB r))
  | 0x22#8 => .command (.mulu (operandA r) (port2 r))
  | 0x23#8 => .command (.muls (operandA r) (port2 r))
  | 0x24#8 => .command (.mul64 (operandA r) (operandB r))
  | 0x25#8 => .command (.divu (operandA r) (port2 r))
  | 0x26#8 => .command (.divs (operandA r) (port2 r))
  | 0x27#8 => .command (.neg (operandA r))
  | 0x28#8 => .command (.shl (operandA r) (port2 r))
  | 0x29#8 => .command (.shr (operandA r) (port2 r))
  | 0x2A#8 => .command (.rotl (operandA r) (port2 r))
  | 0x2B#8 => .command (.rotr (operandA r) (port2 r))
  | 0x2C#8 => .command (.sign (operandA r))
  | 0x2D#8 => .command (.cmps (operandA r) (operandB r))
  | 0x2E#8 => .command (.cmpu (operandA r) (operandB r))
  | 0x2F#8 => .command (.tou32 (operandA r))
  | 0x30#8 => .command (.cvtu (port0 r))
  | 0x31#8 => .command (.cvts (port0 r))
  | 0x32#8 => .command (.mk64 (port0 r) (port1 r))
  | 0x40#8 => .command (.rcons (port0 r))
  | 0x41#8 => .command (.rseed (port0 r))
  | 0x42#8 => .command .rreset
  | 0x43#8 => .command .rnext64
  | 0x44#8 => .command .rnext32
  | 0x50#8 => .command .nbind
  | 0x51#8 => .command (.nseed (port0 r))
  | 0x52#8 => .command (.nselect (port0 r) (port1 r))
  | op => .illegal op

/-- The `op` of a command (R57). -/
def Instr.opcode : Instr → OpCode
  | .wmuladd _ _ _ => 0x10#8
  | .wmoddiv _ _ _ => 0x11#8
  | .add _ _ => 0x20#8
  | .sub _ _ => 0x21#8
  | .mulu _ _ => 0x22#8
  | .muls _ _ => 0x23#8
  | .mul64 _ _ => 0x24#8
  | .divu _ _ => 0x25#8
  | .divs _ _ => 0x26#8
  | .neg _ => 0x27#8
  | .shl _ _ => 0x28#8
  | .shr _ _ => 0x29#8
  | .rotl _ _ => 0x2A#8
  | .rotr _ _ => 0x2B#8
  | .sign _ => 0x2C#8
  | .cmps _ _ => 0x2D#8
  | .cmpu _ _ => 0x2E#8
  | .tou32 _ => 0x2F#8
  | .cvtu _ => 0x30#8
  | .cvts _ => 0x31#8
  | .mk64 _ _ => 0x32#8
  | .rcons _ => 0x40#8
  | .rseed _ => 0x41#8
  | .rreset => 0x42#8
  | .rnext64 => 0x43#8
  | .rnext32 => 0x44#8
  | .nbind => 0x50#8
  | .nseed _ => 0x51#8
  | .nselect _ _ => 0x52#8

/-- The format of a command (R54, R57). -/
def Instr.format : Instr → Format
  | .wmuladd _ _ _ => .T
  | .wmoddiv _ _ _ => .T
  | .add _ _ => .AB
  | .sub _ _ => .AB
  | .mulu _ _ => .AV
  | .muls _ _ => .AV
  | .mul64 _ _ => .AB
  | .divu _ _ => .AV
  | .divs _ _ => .AV
  | .neg _ => .A
  | .shl _ _ => .AV
  | .shr _ _ => .AV
  | .rotl _ _ => .AV
  | .rotr _ _ => .AV
  | .sign _ => .A
  | .cmps _ _ => .AB
  | .cmpu _ _ => .AB
  | .tou32 _ => .A
  | .cvtu _ => .S
  | .cvts _ => .S
  | .mk64 _ _ => .A
  | .rcons _ => .S
  | .rseed _ => .S
  | .rreset => .N
  | .rnext64 => .N
  | .rnext32 => .N
  | .nbind => .N
  | .nseed _ => .S
  | .nselect _ _ => .SS

/-- How many ports a format reads; they are always the lowest-numbered ones (R54). -/
def Format.portsRead : Format → Nat
  | .N => 0
  | .S => 1
  | .SS => 2
  | .T => 3
  | .A => 2
  | .AV => 3
  | .AB => 4

/-- `encode`: the record of a command, unread ports written as zero (R62, R63). -/
def encode (i : Instr) : CommandRecord :=
  match i with
  | .wmuladd a b c => packRecord 0x10#8 a b c 0
  | .wmoddiv a c m => packRecord 0x11#8 a c m 0
  | .add a b => packRecord 0x20#8 a.hi a.lo b.hi b.lo
  | .sub a b => packRecord 0x21#8 a.hi a.lo b.hi b.lo
  | .mulu a v => packRecord 0x22#8 a.hi a.lo v 0
  | .muls a v => packRecord 0x23#8 a.hi a.lo v 0
  | .mul64 a b => packRecord 0x24#8 a.hi a.lo b.hi b.lo
  | .divu a v => packRecord 0x25#8 a.hi a.lo v 0
  | .divs a v => packRecord 0x26#8 a.hi a.lo v 0
  | .neg a => packRecord 0x27#8 a.hi a.lo 0 0
  | .shl a n => packRecord 0x28#8 a.hi a.lo n 0
  | .shr a n => packRecord 0x29#8 a.hi a.lo n 0
  | .rotl a n => packRecord 0x2A#8 a.hi a.lo n 0
  | .rotr a n => packRecord 0x2B#8 a.hi a.lo n 0
  | .sign a => packRecord 0x2C#8 a.hi a.lo 0 0
  | .cmps a b => packRecord 0x2D#8 a.hi a.lo b.hi b.lo
  | .cmpu a b => packRecord 0x2E#8 a.hi a.lo b.hi b.lo
  | .tou32 a => packRecord 0x2F#8 a.hi a.lo 0 0
  | .cvtu x => packRecord 0x30#8 x 0 0 0
  | .cvts x => packRecord 0x31#8 x 0 0 0
  | .mk64 h l => packRecord 0x32#8 h l 0 0
  | .rcons seed => packRecord 0x40#8 seed 0 0 0
  | .rseed seed => packRecord 0x41#8 seed 0 0 0
  | .rreset => packRecord 0x42#8 0 0 0 0
  | .rnext64 => packRecord 0x43#8 0 0 0 0
  | .rnext32 => packRecord 0x44#8 0 0 0 0
  | .nbind => packRecord 0x50#8 0 0 0 0
  | .nseed seed => packRecord 0x51#8 seed 0 0 0
  | .nselect n maxMisses => packRecord 0x52#8 n maxMisses 0 0

/-- The record with every port beyond the first `k` written as zero (R62, R63). -/
def clearPortsFrom (k : Nat) (r : CommandRecord) : CommandRecord :=
  packRecord (opField r) (if 0 < k then port0 r else 0) (if 1 < k then port1 r else 0)
    (if 2 < k then port2 r else 0) (if 3 < k then port3 r else 0)

/-- The record whose bits are the number `w`, numbered as `spec/opcode_table.json` numbers them (one
136-bit number, `op` in bits 135..128), with every bit at or above `nbits` zero (log entry 12). -/
def tableRecord (nbits w : Nat) : CommandRecord := BitVec.ofNat 136 (w % 2 ^ nbits)

/-- The command the decoder reads from a word of `spec/opcode_table.json`; `none` where it answers
`illegal(op)` (R62). -/
def decodeTableWord (nbits w : Nat) : Option Instr :=
  match decode (tableRecord nbits w) with
  | .command i => some i
  | .illegal _ => none

/-- The 2-bit code of a status (R56). -/
def Status.code : Status → BitVec 2
  | .ok => 0#2
  | .illegalOp => 1#2
  | .unbound => 2#2

/-- The 66-bit response record: status, r0, r1, status most significant (R55). -/
def Response.record (r : Response) : ResponseRecord :=
  (r.status.code ++ r.r0 ++ r.r1 : BitVec (2 + 32 + 32))

end Sys2Proof
end

