-- ==== Sys2Proof/Machine/Fetch.lean ====
section
/-!
DEFINITION. Taking the oldest input and what becomes of it: the part of a step that is not the
meaning of a command (R45, R201, R220, R222, R237). The block has no program counter and fetches
nothing from a memory (R27, R52); the host presents its commands one at a time.
-/

namespace Sys2Proof.Machine

/-- What the next step has to do. The state is the one with the input taken off the list. -/
inductive Task where
  /-- Nothing has been presented: the block waits for a command (R239; log entry 7). -/
  | idle
  /-- A command to execute (R62). -/
  | run (i : Instr) (s : State)
  /-- A record with a reserved `op` (R59, R201). -/
  | illegal (s : State)
  /-- The reset event, with or without a command in flight (R220, R222). -/
  | resetting (s : State)

/-- The oldest input, taken and decoded (R45, R62, R237). A command cut short by a reset leaves no
trace: no response and none of its state writes, so its record is dropped unread (R222). -/
def nextTask (s : State) : Task :=
  match s.pending with
  | [] => .idle
  | .command r :: rest =>
    match decode r with
    | .command i => .run i (s.setPending rest)
    | .illegal _ => .illegal (s.setPending rest)
  | .reset :: rest => .resetting (s.setPending rest)
  | .resetDuring _ :: rest => .resetting (s.setPending rest)

/-- A waiting block is always ready and changes nothing (R239; log entry 7). -/
def waitForCommand (s : State) : State := s

/-- A record with a reserved `op` raises `IllegalOp` and nothing else (R59, R201). -/
def rejectRecord (s : State) : State := raise .illegalOp s

end Sys2Proof.Machine
end

