-- ==== Sys2Proof/Machine/Step.lean ====
section
/-!
DEFINITION. One step of the machine: the oldest input, to completion (R45, R49, R237); and the
placing of one record where the next step takes it from.
-/

namespace Sys2Proof.Machine

/-- One step. -/
def step (s : State) : Host.Outcome State Fault Refusal :=
  match nextTask s with
  | .idle => .next (waitForCommand s)
  | .run i t => exec i t
  | .illegal t => .next (rejectRecord t)
  | .resetting t => .next (resetEvent t)

/-- `s` with the record of an opcode-table word presented ahead of all other inputs: the host
presents it and the next step executes it (R238; log entries 5, 12). -/
def State.withFetchWord (s : State) (nbits w : Nat) : State := presentFirst (tableRecord nbits w) s

end Sys2Proof.Machine
end

