-- ==== Sys2Proof/Machine/Assembler.lean ====
section
/-!
DEFINITION. The assembler notation of the spec's listings over tokens (R48, R63, R64, R65): the
mnemonics with the three pseudo-commands, the literals, the record a line stands for, and the digits
a record is printed as. No command of the block depends on this file.
-/

namespace Sys2Proof.Machine

/-- The mnemonics of R57 and the pseudo-commands of R64. -/
inductive Mnemonic where
  | wmuladd
  | wmoddiv
  | add
  | sub
  | mulu
  | muls
  | mul64
  | divu
  | divs
  | neg
  | shl
  | shr
  | rotl
  | rotr
  | sign
  | cmps
  | cmpu
  | tou32
  | cvtu
  | cvts
  | mk64
  | rcons
  | rseed
  | rreset
  | rnext64
  | rnext32
  | nbind
  | nseed
  | nselect
  /-- `RADVANCE`, the pseudo-command for `RNEXT64` (R64). -/
  | radvance
  /-- `CMPZ A`, the pseudo-command for `SIGN A` (R64). -/
  | cmpz
deriving DecidableEq, Repr

/-- A literal of a listing line (R63). -/
inductive Literal where
  /-- A 32-bit literal, hexadecimal or decimal. -/
  | word (x : Nat)
  /-- A literal with a leading `-`. -/
  | minus (x : Nat)
  /-- A Word64 written as one 64-bit literal. -/
  | dword (x : Nat)
deriving DecidableEq, Repr

/-- What an operand position takes: a `u32`, an `i32`, or a Word64 (R54). -/
inductive OperandKind where
  | u32
  | i32
  | word64
deriving DecidableEq, Repr

/-- The `op` a mnemonic stands for (R57, R64). -/
def mnemonicOp : Mnemonic → OpCode
  | .wmuladd => 0x10#8
  | .wmoddiv => 0x11#8
  | .add => 0x20#8
  | .sub => 0x21#8
  | .mulu => 0x22#8
  | .muls => 0x23#8
  | .mul64 => 0x24#8
  | .divu => 0x25#8
  | .divs => 0x26#8
  | .neg => 0x27#8
  | .shl => 0x28#8
  | .shr => 0x29#8
  | .rotl => 0x2A#8
  | .rotr => 0x2B#8
  | .sign => 0x2C#8
  | .cmps => 0x2D#8
  | .cmpu => 0x2E#8
  | .tou32 => 0x2F#8
  | .cvtu => 0x30#8
  | .cvts => 0x31#8
  | .mk64 => 0x32#8
  | .rcons => 0x40#8
  | .rseed => 0x41#8
  | .rreset => 0x42#8
  | .rnext64 => 0x43#8
  | .rnext32 => 0x44#8
  | .nbind => 0x50#8
  | .nseed => 0x51#8
  | .nselect => 0x52#8
  | .radvance => 0x43#8
  | .cmpz => 0x2C#8

/-- The operands of a line, in port order (R54, R63). -/
def mnemonicOperands : Mnemonic → List OperandKind
  | .wmuladd => [.u32, .u32, .u32]
  | .wmoddiv => [.u32, .u32, .u32]
  | .add => [.word64, .word64]
  | .sub => [.word64, .word64]
  | .mulu => [.word64, .u32]
  | .muls => [.word64, .i32]
  | .mul64 => [.word64, .word64]
  | .divu => [.word64, .u32]
  | .divs => [.word64, .i32]
  | .neg => [.word64]
  | .shl => [.word64, .u32]
  | .shr => [.word64, .u32]
  | .rotl => [.word64, .u32]
  | .rotr => [.word64, .u32]
  | .sign => [.word64]
  | .cmps => [.word64, .word64]
  | .cmpu => [.word64, .word64]
  | .tou32 => [.word64]
  | .cvtu => [.u32]
  | .cvts => [.i32]
  | .mk64 => [.word64]
  | .rcons => [.u32]
  | .rseed => [.u32]
  | .rreset => []
  | .rnext64 => []
  | .rnext32 => []
  | .nbind => []
  | .nseed => [.u32]
  | .nselect => [.u32, .u32]
  | .radvance => []
  | .cmpz => [.word64]

/-- The ports the literals of a line fill, in order: a `-` only on an `i32` operand, meaning the
two's-complement pattern; a Word64 as one literal or as its two words (R63). -/
def assemblePorts : List OperandKind → List Literal → Option (List Word)
  | [], [] => some []
  | .u32 :: ks, .word x :: ls =>
    if x < 2 ^ 32 then (assemblePorts ks ls).map (BitVec.ofNat 32 x :: ·) else none
  | .i32 :: ks, .word x :: ls =>
    if x < 2 ^ 32 then (assemblePorts ks ls).map (BitVec.ofNat 32 x :: ·) else none
  | .i32 :: ks, .minus x :: ls =>
    if x ≤ 2 ^ 31 then (assemblePorts ks ls).map (BitVec.ofNat 32 (2 ^ 32 - x) :: ·) else none
  | .word64 :: ks, .dword x :: ls =>
    if x < 2 ^ 64 then
      (assemblePorts ks ls).map (BitVec.ofNat 32 (x / 2 ^ 32) :: BitVec.ofNat 32 x :: ·)
    else none
  | .word64 :: ks, .word h :: .word l :: ls =>
    if h < 2 ^ 32 ∧ l < 2 ^ 32 then
      (assemblePorts ks ls).map (BitVec.ofNat 32 h :: BitVec.ofNat 32 l :: ·)
    else none
  | _, _ => none

/-- The record a line stands for: 0 in every port the format does not read (R63); `RCONS` without
operand is `RCONS 0` (R64). `none` is a line the notation does not have. -/
def assemble (m : Mnemonic) (ls : List Literal) : Option CommandRecord :=
  let operands := if m = .rcons ∧ ls = [] then [.word 0] else ls
  (assemblePorts (mnemonicOperands m) operands).map fun ps =>
    packRecord (mnemonicOp m) (ps.getD 0 0) (ps.getD 1 0) (ps.getD 2 0) (ps.getD 3 0)

/-- A hexadecimal digit as the listings print it (R48). -/
def hexDigit (d : Nat) : Char := "0123456789ABCDEF".toList.getD d '?'

/-- The `k` low hexadecimal digits of a number, most significant first (R48). -/
def hexDigits (x : Nat) : Nat → List Char
  | 0 => []
  | k + 1 => hexDigits (x / 16) k ++ [hexDigit (x % 16)]

/-- A record as the spec prints it: two digits of `op`, then eight digits each of the four ports,
separated by spaces (R48). A printing convention only; it is no byte order of the hardware. -/
def recordListing (r : CommandRecord) : List Char :=
  hexDigits (opField r).toNat 2 ++ ' ' :: hexDigits (port0 r).toNat 8
    ++ ' ' :: hexDigits (port1 r).toNat 8 ++ ' ' :: hexDigits (port2 r).toNat 8
    ++ ' ' :: hexDigits (port3 r).toNat 8

end Sys2Proof.Machine
end

