-- ==== Sys2Proof/WellFormed.lean ====
section
/-!
DEFINITION. What is well formed: a command's operands (R54, R58), the `op` field of a record (R59),
and the open parameters (R13, R14).
-/

namespace Sys2Proof

/-- Every operand of every command is a whole 32-bit port (R41, R58), and every value of it is
admitted: the types of `Instr` carry all of well-formedness, so no check is left to fail. What a
host must keep for a SPECIFIED result (R233) is no condition on the syntax; it is
`Sys2Proof.Safety.inContract`. -/
def Instr.wellFormed : Instr → Bool
  | .wmuladd _ _ _ => true
  | .wmoddiv _ _ _ => true
  | .add _ _ => true
  | .sub _ _ => true
  | .mulu _ _ => true
  | .muls _ _ => true
  | .mul64 _ _ => true
  | .divu _ _ => true
  | .divs _ _ => true
  | .neg _ => true
  | .shl _ _ => true
  | .shr _ _ => true
  | .rotl _ _ => true
  | .rotr _ _ => true
  | .sign _ => true
  | .cmps _ _ => true
  | .cmpu _ _ => true
  | .tou32 _ => true
  | .cvtu _ => true
  | .cvts _ => true
  | .mk64 _ _ => true
  | .rcons _ => true
  | .rseed _ => true
  | .rreset => true
  | .rnext64 => true
  | .rnext32 => true
  | .nbind => true
  | .nseed _ => true
  | .nselect _ _ => true

/-- The reserved `op` values, by the five ranges of R59: `0x00` to `0x0F`, `0x12` to `0x1F`, `0x33`
to `0x3F`, `0x45` to `0x4F`, `0x53` to `0xFF`. -/
def opReserved (op : OpCode) : Bool :=
  let x := op.toNat
  decide (x ≤ 0x0F) || (decide (0x12 ≤ x) && decide (x ≤ 0x1F))
    || (decide (0x33 ≤ x) && decide (x ≤ 0x3F))
    || (decide (0x45 ≤ x) && decide (x ≤ 0x4F)) || decide (0x53 ≤ x)

/-- A record is well formed when its `op` field, `cmd[135:128]`, is not reserved (R59, R60); no
other bit matters (R57, R58). -/
def recordWellFormed (r : CommandRecord) : Bool := !opReserved (r.extractLsb' 128 8)

/-- The constraints the document gives the two generator constants: bit 0 is 1 (R13, R14). -/
def Config.Params.wellFormed (p : Config.Params) : Bool :=
  p.ranq1Const.lo.getLsbD 0 && p.ranq1Mult.lo.getLsbD 0

end Sys2Proof
end

