-- ==== Sys2Proof/Safety.lean ====
section
/-!
DEFINITION. What counts as a safe run of RECKON-CORE. The block never stops (R236, R239), so safety
is about responses and contracts: an error response counts as a fault OF THE PROGRAM (R201, R202,
U5, U8), and a command outside the document's contract gets an unspecified result (R233, R238).
-/

namespace Sys2Proof.Safety

open Sys2Proof.Machine

/-- No response so far reports an error (R201, R202). -/
def errorFree (s : State) : Bool := s.responses.all fun r => r.status == .ok

/-- The duties of the host for one command (R233, R238): `a < m` for `WMODDIV`, amounts below 64 for
shifts and rotates, and a bound selector for `NSEED` and `NSELECT`. -/
def inContract (i : Instr) (s : State) : Bool :=
  match i with
  | .wmuladd _ _ _ => true
  | .wmoddiv a _ m => decide (a < m)
  | .add _ _ => true
  | .sub _ _ => true
  | .mulu _ _ => true
  | .muls _ _ => true
  | .mul64 _ _ => true
  | .divu _ _ => true
  | .divs _ _ => true
  | .neg _ => true
  | .shl _ n => decide (n.toNat < 64)
  | .shr _ n => decide (n.toNat < 64)
  | .rotl _ n => decide (n.toNat < 64)
  | .rotr _ n => decide (n.toNat < 64)
  | .sign _ => true
  | .cmps _ _ => true
  | .cmpu _ _ => true
  | .tou32 _ => true
  | .cvtu _ => true
  | .cvts _ => true
  | .mk64 _ _ => true
  | .rcons _ => true
  | .rseed _ => true
  | .rreset => true
  | .rnext64 => true
  | .rnext32 => true
  | .nbind => true
  | .nseed _ => s.nrBound
  | .nselect _ _ => s.nrBound

/-- The fairness bound of R195 over the slots `[0, n)`, without sorting: for every `j < n` at most `j`
counters exceed `maxMisses + n - 2 - j`. That is "the `k`-th largest counter is at most
`(M + n - 2) - (k - 1)`" for every `k`. -/
abbrev streakBound (n maxMisses : Nat) (v : Counters) : Prop :=
  ∀ j, j < n →
    (List.range n).countP (fun i => decide (maxMisses + n < (counterAt v i).toNat + j + 2)) ≤ j

/-- What every step keeps: the parameters meet the document's constraints (R13, R14), and slot 15,
which no selection offers (R24, R188), holds 0. -/
abbrev invariantHolds (s : State) : Prop :=
  s.params.wellFormed = true ∧ counterAt s.nrStats 15 = 0

end Sys2Proof.Safety
end

