-- ==== Sys2Proof/Certificates/Slice0/Obligations.lean ====
section
/-!
DEFINITION. The statements for the provers, from the numbered rules of `spec/`. Every statement
about a command gives the whole next state as a record update, so it says the command's result,
that it completes, and its frame (every field not named is unchanged) at once. There is no memory
(R29, R40), so no statement speaks of one.
-/

open Sys2Proof Sys2Proof.Machine

/-! ### Encoding -/

/-- Decoding the record of a command gives the command back, every operand at every value (R62). -/
def Obligations.DecodeEncodeRoundTrip : Prop :=
  ∀ i : Instr, i.wellFormed = true → decode (encode i) = .command i

/-- A legal record and the record the encoder writes for what it decodes to differ only in the ports
the format does not read, which the encoder writes as zero; clearing those ports first does not
change what the record decodes to (R58, R62). -/
def Obligations.EncodeClearsUnreadPorts : Prop :=
  ∀ (r : CommandRecord) (i : Instr), decode r = .command i →
    encode i = clearPortsFrom i.format.portsRead r ∧
    decode (clearPortsFrom i.format.portsRead r) = .command i

/-- A record decodes to `illegal(op)` exactly when its `op` is in one of the five reserved ranges,
227 values in all; every other record decodes to a command of that `op` (R57, R59, R62). -/
def Obligations.ReservedOpDecodesToIllegal : Prop :=
  (∀ r : CommandRecord,
    (opReserved (opField r) = true ∧ decode r = .illegal (opField r)) ∨
    (opReserved (opField r) = false ∧ ∃ i, decode r = .command i ∧ i.opcode = opField r)) ∧
  (List.range 256).countP (fun x => opReserved (BitVec.ofNat 8 x)) = 227

/-- Six records written out digit by digit from R53 and R57 (95 sections 5.2, 7.1 and 8.1) decode to
what they stand for. -/
def Obligations.WrittenOutRecordsDecode : Prop :=
  decode 0x10123456789ABCDEF00FEDCBA9DEADBEEF#136
      = .command (.wmuladd 0x12345678#32 0x9ABCDEF0#32 0x0FEDCBA9#32) ∧
  decode 0x270000000000000001AAAAAAAA55555555#136 = .command (.neg ⟨0, 1⟩) ∧
  decode 0x2812345678_9ABCDEF0_00000023_00000000#136
      = .command (.shl ⟨0x12345678#32, 0x9ABCDEF0#32⟩ 35) ∧
  decode 0x4211111111222222223333333344444444#136 = .command .rreset ∧
  decode 0x5200000003_00000002_00000000_00000000#136 = .command (.nselect 3 2) ∧
  decode 0x5300000003000000020000000000000000#136 = .illegal 0x53#8

/-- The three pseudo-commands of R64 assemble to the records of their expansions; the operand of
`CMPZ` in both forms R63 gives a Word64, its two port literals and one 64-bit literal, at every
value; and `CMPZ A`, the sign of `A`, is the signed comparison of `A` with zero. -/
def Obligations.PseudoCommandsExpand : Prop :=
  assemble .rcons [] = some (encode (.rcons 0)) ∧
  assemble .radvance [] = some (encode .rnext64) ∧
  (∀ h l : Word, assemble .cmpz [.word h.toNat, .word l.toNat] = some (encode (.sign ⟨h, l⟩))) ∧
  (∀ a : Word64, assemble .cmpz [.dword a.val] = some (encode (.sign a))) ∧
  ∀ (a : Word64) (s : State), exec (.sign a) s = exec (.cmps a ⟨0, 0⟩) s

/-! ### The step, errors, reset, runs -/

/-- A step whose oldest input is a record that decodes to a command executes that command, in the
state with the input taken off the list (R45, R62, R237). -/
def Obligations.StepRunsTheDecodedCommand : Prop :=
  ∀ (s : State) (r : CommandRecord) (rest : List Input) (i : Instr),
    s.pending = .command r :: rest → decode r = .command i → i.wellFormed = true →
    step s = exec i { s with pending := rest }

/-- A record with a reserved `op` is answered by status `ILLEGAL_OP` (code 1) with `r0 = r1 = 0`,
whatever its other 128 bits and whatever the state, and nothing else changes (R59, R201, R207). -/
def Obligations.ReservedRecordAnswersIllegalOp : Prop :=
  ∀ (s : State) (r : CommandRecord) (rest : List Input),
    s.pending = .command r :: rest → opReserved (r.extractLsb' 128 8) = true →
    step s = .next { s with
      pending := rest, responses := s.responses ++ [⟨.illegalOp, 0, 0⟩] } ∧
    (Response.mk .illegalOp 0 0).record = (1#2 ++ 0#64 : BitVec (2 + 64))

/-- An error response writes no state at all: whenever a command is answered with a status other
than `OK`, its result ports are zero and the state after is the state before, but for the input
taken and the response given (R56, R203). -/
def Obligations.ErrorResponsesWriteNoState : Prop :=
  ∀ (s t : State) (r : CommandRecord) (rest : List Input) (a : Response),
    s.pending = .command r :: rest → step s = .next t →
    t.responses = s.responses ++ [a] → a.status ≠ .ok →
    a.r0 = 0 ∧ a.r1 = 0 ∧ t = { s with pending := rest, responses := s.responses ++ [a] }

/-- The block never stops, and a presented command is answered by exactly one response, after all
earlier ones, within its one step (R45, R55, R239). -/
def Obligations.EveryCommandGetsOneResponse : Prop :=
  (∀ s : State, ∃ t, step s = .next t) ∧
  ∀ (s : State) (r : CommandRecord) (rest : List Input), s.pending = .command r :: rest →
    ∃ t a, step s = .next t ∧ t.pending = rest ∧ t.responses = s.responses ++ [a]

/-- A run of `k` presented commands takes exactly `k` steps, from any state, and its observation is
`k` responses after the earlier ones; the inputs behind them are still waiting (R236, R239). -/
def Obligations.RunOfCommandsCompletesInOneStepEach : Prop :=
  ∀ (cs : List CommandRecord) (rest : List Input) (s : State),
    s.pending = cs.map Input.command ++ rest →
    ∃ t rs, Sys2Proof.core.run cs.length s = .next t ∧ t.pending = rest ∧
      rs.length = cs.length ∧ t.responses = s.responses ++ rs

/-- The reset event leaves `RQ_V` at one advance of `RANQ1_CONST`, the counters zero and the
selector unbound, and delivers no response; so does one that arrives while any command is running,
whose state writes and response are lost (R220, R222). THE MODEL'S READING (DEDUCED, log entry 8):
the inputs still waiting, the responses already delivered, the parameters and the count of free
values survive the reset. -/
def Obligations.ResetEventLeavesTheResetState : Prop :=
  ∀ (s : State) (x : Input) (rest : List Input),
    s.pending = x :: rest → (x = .reset ∨ ∃ r, x = .resetDuring r) →
    step s = .next { s with
      pending := rest
      rqV := advance s.params s.params.ranq1Const
      nrStats := Vector.replicate 16 0
      nrBound := false }

/-- The state after reset is the table of R33, with the default parameters, which are no rule of the
source document (PRESUMED: log entry 2; R13 and R14 give them "from general knowledge, not in
source"); the printed `RQ_V` is one advance of the constant. -/
def Obligations.ResetStateIsTheTable : Prop :=
  State.reset.rqV = ⟨0xA2DEE063#32, 0x3C9C1D71#32⟩ ∧
  State.reset.rqV = advance State.reset.params State.reset.params.ranq1Const ∧
  (∀ i, i < 16 → counterAt State.reset.nrStats i = 0) ∧
  State.reset.nrBound = false ∧
  State.reset.params.ranq1Const = ⟨0x38ECAC5F#32, 0xB3251641#32⟩ ∧
  State.reset.params.ranq1Mult = ⟨0x2545F491#32, 0x4F6CDD1D#32⟩

/-- THE MODEL'S CHOICE (log entry 7; the spec says only that the block is always ready for another
command): with nothing presented a step changes nothing. -/
def Obligations.IdleStepChangesNothing : Prop :=
  ∀ s : State, s.pending = [] → step s = .next s

/-! ### WideOps -/

/-- `WMULADD a, b, c` answers the pair `(q, r)` with `q * 2^32 + r = a * b + c`, exact for all
inputs, and writes no state (R80, R82). -/
def Obligations.WmuladdIsExact : Prop :=
  ∀ (a b c p3 : Word) (s : State),
    decode (packRecord 0x10#8 a b c p3) = .command (.wmuladd a b c) ∧
    ∃ q r : Word,
      exec (.wmuladd a b c) s = .next { s with responses := s.responses ++ [⟨.ok, q, r⟩] } ∧
      q.toNat * 2 ^ 32 + r.toNat = a.toNat * b.toNat + c.toNat

/-- The datapath of R83, built from four 16 x 16 partial products with explicit carry detection,
gives the bits of `WMULADD` for all inputs. -/
def Obligations.PartialProductDatapathIsExact : Prop :=
  ∀ a b c : Word,
    (wideMulAddDatapath a b c).1.toNat * 2 ^ 32 + (wideMulAddDatapath a b c).2.toNat
      = a.toNat * b.toNat + c.toNat ∧
    wideMulAddDatapath a b c = wideMulAdd a b c

/-- `WMODDIV a, c, m` with `a < m` answers the unique `(q, r)` with `(a << 32 | c) = q*m + r` and
`0 <= r < m` (R86, R87). -/
def Obligations.WmoddivDividesInContract : Prop :=
  ∀ (a c m p3 : Word) (s : State),
    decode (packRecord 0x11#8 a c m p3) = .command (.wmoddiv a c m) ∧
    (a < m → ∃ q r : Word,
      exec (.wmoddiv a c m) s = .next { s with responses := s.responses ++ [⟨.ok, q, r⟩] } ∧
      a.toNat * 2 ^ 32 + c.toNat = q.toNat * m.toNat + r.toNat ∧ r.toNat < m.toNat ∧
      ∀ q' r' : Nat, a.toNat * 2 ^ 32 + c.toNat = q' * m.toNat + r' → r' < m.toNat →
        q' = q.toNat ∧ r' = r.toNat)

/-- The 32-iteration bit-serial restoring divider of R88 computes quotient and remainder for every
dividend and modulus with `a < m`. -/
def Obligations.RestoringDividerRefinesDivision : Prop :=
  ∀ a c m : Word, a < m → restoringDivide a c m = wideModDiv a c m

/-- `WMODDIV` with `a >= m`, `m = 0` included, completes with status `OK` and some two words, and writes
no state of the block (R90). That it uses up two free values is the model's own count (log
entries 4, 10). -/
def Obligations.WmoddivOutsideContractCompletes : Prop :=
  ∀ (a c m : Word) (s : State), m ≤ a → ∃ x y : Word,
    exec (.wmoddiv a c m) s = .next { s with
      responses := s.responses ++ [⟨.ok, x, y⟩], draws := s.draws + 2 }

/-! ### Word64 arithmetic -/

/-- `ADD A, B` answers `W64(val(A) + val(B))`; the carry out of bit 63 is lost and nothing else is
written (R100). -/
def Obligations.AddWrapsModulo64Bits : Prop :=
  ∀ (p0 p1 p2 p3 : Word) (s : State),
    decode (packRecord 0x20#8 p0 p1 p2 p3) = .command (.add ⟨p0, p1⟩ ⟨p2, p3⟩) ∧
    exec (.add ⟨p0, p1⟩ ⟨p2, p3⟩) s = .next { s with responses := s.responses ++
      [⟨.ok, (Word64.ofNat ((Word64.mk p0 p1).val + (Word64.mk p2 p3).val)).hi,
        (Word64.ofNat ((Word64.mk p0 p1).val + (Word64.mk p2 p3).val)).lo⟩] }

/-- `SUB A, B` answers `W64(val(A) - val(B))`; the borrow out of bit 63 is lost (R102). -/
def Obligations.SubWrapsModulo64Bits : Prop :=
  ∀ (p0 p1 p2 p3 : Word) (s : State),
    decode (packRecord 0x21#8 p0 p1 p2 p3) = .command (.sub ⟨p0, p1⟩ ⟨p2, p3⟩) ∧
    exec (.sub ⟨p0, p1⟩ ⟨p2, p3⟩) s = .next { s with responses := s.responses ++
      [⟨.ok, (Word64.ofInt ((Word64.mk p0 p1).val - (Word64.mk p2 p3).val)).hi,
        (Word64.ofInt ((Word64.mk p0 p1).val - (Word64.mk p2 p3).val)).lo⟩] }

/-- `ADD` and `SUB` answer the functions `add64` and `sub64`; subtraction undoes addition and addition
undoes subtraction, with the corner cases of R103. -/
def Obligations.AddAndSubAreInverse : Prop :=
  (∀ (a b : Word64) (s : State),
    exec (.add a b) s = .next { s with
      responses := s.responses ++ [⟨.ok, (add64 a b).hi, (add64 a b).lo⟩] } ∧
    exec (.sub a b) s = .next { s with
      responses := s.responses ++ [⟨.ok, (sub64 a b).hi, (sub64 a b).lo⟩] }) ∧
  (∀ a b : Word64, sub64 (add64 a b) b = a ∧ add64 (sub64 a b) b = a ∧ sub64 a a = ⟨0, 0⟩) ∧
  sub64 ⟨0, 0⟩ ⟨0, 1⟩ = ⟨0xFFFFFFFF#32, 0xFFFFFFFF#32⟩ ∧
  sub64 ⟨0x80000000#32, 0⟩ ⟨0, 1⟩ = ⟨0x7FFFFFFF#32, 0xFFFFFFFF#32⟩

/-- `NEG A` answers `W64(2^64 - val(A))`, the two's-complement negation; it is its own inverse
(R104, R105). -/
def Obligations.NegIsTwosComplement : Prop :=
  (∀ (p0 p1 p2 p3 : Word) (s : State),
    decode (packRecord 0x27#8 p0 p1 p2 p3) = .command (.neg ⟨p0, p1⟩) ∧
    exec (.neg ⟨p0, p1⟩) s = .next { s with responses := s.responses ++
      [⟨.ok, (Word64.ofNat (2 ^ 64 - (Word64.mk p0 p1).val)).hi,
        (Word64.ofNat (2 ^ 64 - (Word64.mk p0 p1).val)).lo⟩] }) ∧
  (∀ a : Word64, negate a = Word64.ofNat (2 ^ 64 - a.val) ∧ negate (negate a) = a) ∧
  negate ⟨0, 0⟩ = ⟨0, 0⟩ ∧ negate ⟨0x80000000#32, 0⟩ = ⟨0x80000000#32, 0⟩ ∧
  negate ⟨1, 0⟩ = ⟨0xFFFFFFFF#32, 0⟩

/-- `MULU A, v` answers `W64(val(A) * v)`, the bits above 63 discarded (R106). -/
def Obligations.MuluTruncatesTheProduct : Prop :=
  ∀ (p0 p1 v p3 : Word) (s : State),
    decode (packRecord 0x22#8 p0 p1 v p3) = .command (.mulu ⟨p0, p1⟩ v) ∧
    exec (.mulu ⟨p0, p1⟩ v) s = .next { s with responses := s.responses ++
      [⟨.ok, (Word64.ofNat ((Word64.mk p0 p1).val * v.toNat)).hi,
        (Word64.ofNat ((Word64.mk p0 p1).val * v.toNat)).lo⟩] }

/-- `MULS A, v` answers `W64(val(A) * sint32(v))`, for `v = -2^31` too, and that is also
`W64(sval(A) * sint32(v))` (R108). -/
def Obligations.MulsMultipliesBySignedScalar : Prop :=
  ∀ (p0 p1 v p3 : Word) (s : State),
    decode (packRecord 0x23#8 p0 p1 v p3) = .command (.muls ⟨p0, p1⟩ v) ∧
    exec (.muls ⟨p0, p1⟩ v) s = .next { s with responses := s.responses ++
      [⟨.ok, (Word64.ofInt ((Word64.mk p0 p1).val * sint32 v)).hi,
        (Word64.ofInt ((Word64.mk p0 p1).val * sint32 v)).lo⟩] } ∧
    Word64.ofInt ((Word64.mk p0 p1).val * sint32 v)
      = Word64.ofInt (sval ⟨p0, p1⟩ * sint32 v)

/-- `MUL64 A, B` answers `W64(val(A) * val(B))` (R110). -/
def Obligations.Mul64TruncatesTheProduct : Prop :=
  ∀ (p0 p1 p2 p3 : Word) (s : State),
    decode (packRecord 0x24#8 p0 p1 p2 p3) = .command (.mul64 ⟨p0, p1⟩ ⟨p2, p3⟩) ∧
    exec (.mul64 ⟨p0, p1⟩ ⟨p2, p3⟩) s = .next { s with responses := s.responses ++
      [⟨.ok, (Word64.ofNat ((Word64.mk p0 p1).val * (Word64.mk p2 p3).val)).hi,
        (Word64.ofNat ((Word64.mk p0 p1).val * (Word64.mk p2 p3).val)).lo⟩] }

/-- `DIVU A, v` answers the floor quotient for `v > 1`, and `A` unchanged for `v = 0` and `v = 1`,
with status `OK` in every case: there is no zero-divisor error (R112, R114). -/
def Obligations.DivuDividesOrPassesThrough : Prop :=
  ∀ (p0 p1 v p3 : Word) (s : State),
    decode (packRecord 0x25#8 p0 p1 v p3) = .command (.divu ⟨p0, p1⟩ v) ∧
    exec (.divu ⟨p0, p1⟩ v) s = .next { s with responses := s.responses ++
      [if v.toNat ≤ 1 then ⟨.ok, p0, p1⟩
       else ⟨.ok, (Word64.ofNat ((Word64.mk p0 p1).val / v.toNat)).hi,
         (Word64.ofNat ((Word64.mk p0 p1).val / v.toNat)).lo⟩] } ∧
    (1 < v.toNat → (Word64.ofNat ((Word64.mk p0 p1).val / v.toNat)).val
      = (Word64.mk p0 p1).val / v.toNat)

/-- Multiplying by `MULU` the quotient that `DIVU` answers gives the dividend less its remainder, and
the dividend itself when it is an exact multiple (R115). -/
def Obligations.MultiplyingAQuotientBack : Prop :=
  ∀ (a : Word64) (v : Word) (s : State), 1 < v.toNat → ∃ q b : Word64,
    exec (.divu a v) s = .next { s with responses := s.responses ++ [⟨.ok, q.hi, q.lo⟩] } ∧
    exec (.mulu q v) s = .next { s with responses := s.responses ++ [⟨.ok, b.hi, b.lo⟩] } ∧
    b = Word64.ofNat (a.val - a.val % v.toNat) ∧ (a.val % v.toNat = 0 → b = a)

/-- `DIVS A, v`, signed in the divisor only, at every value of the divisor: for `v = -1` the
parameter `DIVS_NEG1_NEGATES` chooses between the negation and the pass-through; for every other
negative `v` the negated quotient by `|v|`, `v = -2^31` included; otherwise as `DIVU`
(R116, R118). -/
def Obligations.DivsNegatesForNegativeDivisor : Prop :=
  ∀ (p0 p1 v p3 : Word) (s : State),
    decode (packRecord 0x26#8 p0 p1 v p3) = .command (.divs ⟨p0, p1⟩ v) ∧
    ∃ w : Word64,
      exec (.divs ⟨p0, p1⟩ v) s
        = .next { s with responses := s.responses ++ [⟨.ok, w.hi, w.lo⟩] } ∧
      w = if sint32 v = -1 then
            (if s.params.divsNeg1Negates = true
              then Word64.ofInt (-((Word64.mk p0 p1).val : Int)) else ⟨p0, p1⟩)
          else if sint32 v < 0 then
            Word64.ofInt (-(((Word64.mk p0 p1).val / (sint32 v).natAbs : Nat) : Int))
          else if v.toNat ≤ 1 then ⟨p0, p1⟩
          else Word64.ofNat ((Word64.mk p0 p1).val / v.toNat)

/-! ### Word64 shifts, rotates, comparisons, conversions -/

/-- `SHL A, n` with `n < 64` answers `W64(val(A) * 2^n)` (R130). -/
def Obligations.ShlMultipliesByPowerOfTwo : Prop :=
  ∀ (p0 p1 n p3 : Word) (s : State),
    decode (packRecord 0x28#8 p0 p1 n p3) = .command (.shl ⟨p0, p1⟩ n) ∧
    (n.toNat < 64 → exec (.shl ⟨p0, p1⟩ n) s = .next { s with responses := s.responses ++
      [⟨.ok, (Word64.ofNat ((Word64.mk p0 p1).val * 2 ^ n.toNat)).hi,
        (Word64.ofNat ((Word64.mk p0 p1).val * 2 ^ n.toNat)).lo⟩] })

/-- `SHR A, n` with `n < 64` answers `W64(val(A) / 2^n)`, zero-filling (R132). -/
def Obligations.ShrDividesByPowerOfTwo : Prop :=
  ∀ (p0 p1 n p3 : Word) (s : State),
    decode (packRecord 0x29#8 p0 p1 n p3) = .command (.shr ⟨p0, p1⟩ n) ∧
    (n.toNat < 64 → exec (.shr ⟨p0, p1⟩ n) s = .next { s with responses := s.responses ++
      [⟨.ok, (Word64.ofNat ((Word64.mk p0 p1).val / 2 ^ n.toNat)).hi,
        (Word64.ofNat ((Word64.mk p0 p1).val / 2 ^ n.toNat)).lo⟩] })

/-- `ROTL A, n` with `n < 64` answers the word whose bit `(i + n) mod 64` is bit `i` of `A`
(R134). -/
def Obligations.RotlMovesEveryBitUp : Prop :=
  ∀ (p0 p1 n p3 : Word) (s : State),
    decode (packRecord 0x2A#8 p0 p1 n p3) = .command (.rotl ⟨p0, p1⟩ n) ∧
    (n.toNat < 64 → ∃ w : Word64,
      exec (.rotl ⟨p0, p1⟩ n) s
        = .next { s with responses := s.responses ++ [⟨.ok, w.hi, w.lo⟩] } ∧
      ∀ i, i < 64 → w.val.testBit ((i + n.toNat) % 64) = (Word64.mk p0 p1).val.testBit i)

/-- `ROTR A, n` with `n < 64` answers the word whose bit `(i - n) mod 64` is bit `i` of `A`; it is
`ROTL` by `(64 - n) mod 64`, and by 32 both swap the two words (R136). -/
def Obligations.RotrMovesEveryBitDown : Prop :=
  (∀ (p0 p1 n p3 : Word) (s : State),
    decode (packRecord 0x2B#8 p0 p1 n p3) = .command (.rotr ⟨p0, p1⟩ n) ∧
    (n.toNat < 64 → ∃ w : Word64,
      exec (.rotr ⟨p0, p1⟩ n) s
        = .next { s with responses := s.responses ++ [⟨.ok, w.hi, w.lo⟩] } ∧
      ∀ i, i < 64 → w.val.testBit ((i + 64 - n.toNat) % 64) = (Word64.mk p0 p1).val.testBit i)) ∧
  (∀ (a : Word64) (n : Nat) (s : State), n < 64 →
    exec (.rotr a (BitVec.ofNat 32 n)) s
      = exec (.rotl a (BitVec.ofNat 32 ((64 - n) % 64))) s) ∧
  ∀ (a : Word64) (s : State),
    exec (.rotl a 32) s = .next { s with responses := s.responses ++ [⟨.ok, a.lo, a.hi⟩] } ∧
    exec (.rotr a 32) s = .next { s with responses := s.responses ++ [⟨.ok, a.lo, a.hi⟩] }

/-- The four shift and rotate commands with an amount of 64 or more complete with status `OK` and
some two words and write no state of the block (R137). That they use up two free values is the
model's own count (log entries 4, 11). -/
def Obligations.LargeShiftAmountsComplete : Prop :=
  ∀ (a : Word64) (n : Word) (s : State) (i : Instr), 64 ≤ n.toNat →
    (i = .shl a n ∨ i = .shr a n ∨ i = .rotl a n ∨ i = .rotr a n) → ∃ x y : Word,
    exec i s = .next { s with
      responses := s.responses ++ [⟨.ok, x, y⟩], draws := s.draws + 2 }

/-- `SIGN A` answers -1, 0 or +1 as `sval(A)` is negative, zero or positive (R140). -/
def Obligations.SignIsTheSignOfTheValue : Prop :=
  ∀ (p0 p1 p2 p3 : Word) (s : State),
    decode (packRecord 0x2C#8 p0 p1 p2 p3) = .command (.sign ⟨p0, p1⟩) ∧
    exec (.sign ⟨p0, p1⟩) s = .next { s with responses := s.responses ++
      [⟨.ok, 0, if sval ⟨p0, p1⟩ < 0 then 0xFFFFFFFF#32
                else if 0 < sval ⟨p0, p1⟩ then 0x00000001#32 else 0x00000000#32⟩] }

/-- `CMPS A, B` answers the verdict of `sval(A)` against `sval(B)` (R142). -/
def Obligations.CmpsComparesSignedValues : Prop :=
  ∀ (p0 p1 p2 p3 : Word) (s : State),
    decode (packRecord 0x2D#8 p0 p1 p2 p3) = .command (.cmps ⟨p0, p1⟩ ⟨p2, p3⟩) ∧
    exec (.cmps ⟨p0, p1⟩ ⟨p2, p3⟩) s = .next { s with responses := s.responses ++
      [⟨.ok, 0, if sval ⟨p0, p1⟩ < sval ⟨p2, p3⟩ then 0xFFFFFFFF#32
                else if sval ⟨p2, p3⟩ < sval ⟨p0, p1⟩ then 0x00000001#32
                else 0x00000000#32⟩] }

/-- `CMPU A, B` answers the verdict of `val(A)` against `val(B)` (R144). -/
def Obligations.CmpuComparesUnsignedValues : Prop :=
  ∀ (p0 p1 p2 p3 : Word) (s : State),
    decode (packRecord 0x2E#8 p0 p1 p2 p3) = .command (.cmpu ⟨p0, p1⟩ ⟨p2, p3⟩) ∧
    exec (.cmpu ⟨p0, p1⟩ ⟨p2, p3⟩) s = .next { s with responses := s.responses ++
      [⟨.ok, 0, if (Word64.mk p0 p1).val < (Word64.mk p2 p3).val then 0xFFFFFFFF#32
                else if (Word64.mk p2 p3).val < (Word64.mk p0 p1).val then 0x00000001#32
                else 0x00000000#32⟩] }

/-- The laws of the comparisons (R145), of the verdicts that `CMPS` and `CMPU` answer: equal operands give 0; the two families agree exactly when
the sign bits agree or the operands are equal, and give opposite nonzero verdicts otherwise;
comparing with zero is the sign; swapping the operands negates the verdict. -/
def Obligations.ComparisonLaws : Prop :=
  (∀ (a b : Word64) (s : State),
    exec (.cmps a b) s = .next { s with
      responses := s.responses ++ [⟨.ok, 0, compareSigned a b⟩] } ∧
    exec (.cmpu a b) s = .next { s with
      responses := s.responses ++ [⟨.ok, 0, compareUnsigned a b⟩] } ∧
    exec (.cmps a ⟨0, 0⟩) s = exec (.sign a) s) ∧
  (∀ a : Word64, compareSigned a a = 0 ∧ compareUnsigned a a = 0) ∧
  (∀ a b : Word64,
    (compareSigned a b = compareUnsigned a b ↔ (signBit a.hi = signBit b.hi ∨ a = b)) ∧
    (¬ (signBit a.hi = signBit b.hi ∨ a = b) →
      compareSigned a b = -compareUnsigned a b ∧ compareUnsigned a b ≠ 0) ∧
    compareSigned b a = -compareSigned a b ∧ compareUnsigned b a = -compareUnsigned a b) ∧
  compareSigned ⟨0x80000000#32, 0⟩ ⟨0x7FFFFFFF#32, 0xFFFFFFFF#32⟩ = 0xFFFFFFFF#32 ∧
  compareUnsigned ⟨0x80000000#32, 0⟩ ⟨0x7FFFFFFF#32, 0xFFFFFFFF#32⟩ = 0x00000001#32

/-- `TOU32` answers the low word, `CVTU` zero-extends, `MK64` copies its operand
(R146, R148, R152). -/
def Obligations.UnsignedConversions : Prop :=
  ∀ (p0 p1 p2 p3 : Word) (s : State),
    decode (packRecord 0x2F#8 p0 p1 p2 p3) = .command (.tou32 ⟨p0, p1⟩) ∧
    exec (.tou32 ⟨p0, p1⟩) s = .next { s with responses := s.responses ++ [⟨.ok, 0, p1⟩] } ∧
    decode (packRecord 0x30#8 p0 p1 p2 p3) = .command (.cvtu p0) ∧
    exec (.cvtu p0) s = .next { s with responses := s.responses ++ [⟨.ok, 0, p0⟩] } ∧
    decode (packRecord 0x32#8 p0 p1 p2 p3) = .command (.mk64 p0 p1) ∧
    exec (.mk64 p0 p1) s = .next { s with responses := s.responses ++ [⟨.ok, p0, p1⟩] }

/-- `CVTS x` fills the high word with the sign, so that the value is kept (R150). -/
def Obligations.CvtsKeepsTheSignedValue : Prop :=
  ∀ (p0 p1 p2 p3 : Word) (s : State),
    decode (packRecord 0x31#8 p0 p1 p2 p3) = .command (.cvts p0) ∧
    ∃ h : Word, exec (.cvts p0) s
        = .next { s with responses := s.responses ++ [⟨.ok, h, p0⟩] } ∧
      h = (if p0.getLsbD 31 then 0xFFFFFFFF#32 else 0) ∧ sval ⟨h, p0⟩ = sint32 p0

/-- The round trips of the conversions and the signs of converted words (R153), of what the commands
answer. -/
def Obligations.ConversionRoundTrips : Prop :=
  (∀ (x : Word) (s : State), ∃ u v : Word64,
    exec (.cvtu x) s = .next { s with responses := s.responses ++ [⟨.ok, u.hi, u.lo⟩] } ∧
    exec (.cvts x) s = .next { s with responses := s.responses ++ [⟨.ok, v.hi, v.lo⟩] } ∧
    exec (.tou32 u) s = .next { s with responses := s.responses ++ [⟨.ok, 0, x⟩] } ∧
    exec (.tou32 v) s = .next { s with responses := s.responses ++ [⟨.ok, 0, x⟩] } ∧
    exec (.sign v) s = .next { s with responses := s.responses ++
      [⟨.ok, 0, if sint32 x < 0 then verdictLess
        else if 0 < sint32 x then verdictGreater else verdictEqual⟩] } ∧
    exec (.sign u) s = .next { s with responses := s.responses ++
      [⟨.ok, 0, if x = 0 then verdictEqual else verdictGreater⟩] }) ∧
  ∀ (a : Word64) (s : State),
    exec (.cvtu a.lo) s = .next { s with responses := s.responses ++ [⟨.ok, a.hi, a.lo⟩] } ↔
      a.hi = 0

/-! ### Ranq1 -/

/-- `advance` is the xorshift-multiply step on the 64-bit value: shifts 21 right, 35 left, 4 right,
then the product with `RANQ1_MULT` modulo `2^64` (R160). -/
def Obligations.AdvanceIsXorshiftMultiply : Prop :=
  ∀ (p : Config.Params) (v : Word64) (v1 v2 v3 : Nat),
    v1 = v.val ^^^ (v.val / 2 ^ 21) → v2 = v1 ^^^ (v1 * 2 ^ 35 % 2 ^ 64) →
    v3 = v2 ^^^ (v2 / 2 ^ 4) →
    (advance p v).val = v3 * p.ranq1Mult.val % 2 ^ 64

/-- With an odd multiplier `advance` is a bijection on the 64-bit states that fixes zero; so from a
nonzero state no later state is zero, and from zero every later state is zero (R161). -/
def Obligations.AdvanceIsBijectiveFixingZero : Prop :=
  ∀ p : Config.Params, p.ranq1Mult.lo.getLsbD 0 = true →
    Function.Bijective (advance p) ∧
    ∀ (k : Nat) (v : Word64), (advance p)^[k] v = ⟨0, 0⟩ ↔ v = ⟨0, 0⟩

/-- `RCONS seed` leaves `advance(W(CONST.hi, CONST.lo ^ seed))` in `RQ_V`, answers no value, and
touches nothing else, whatever the two constants are (R162). -/
def Obligations.RconsConstructsAndAdvances : Prop :=
  ∀ (p0 p1 p2 p3 : Word) (s : State),
    decode (packRecord 0x40#8 p0 p1 p2 p3) = .command (.rcons p0) ∧
    exec (.rcons p0) s = .next { s with
      rqV := advance s.params ⟨s.params.ranq1Const.hi, s.params.ranq1Const.lo ^^^ p0⟩
      responses := s.responses ++ [⟨.ok, 0, 0⟩] }

/-- `RSEED s` leaves `W(0, s)` and `RRESET` leaves `RANQ1_CONST` in `RQ_V`, neither advanced; neither
answers a value or touches anything else (R164, R166). -/
def Obligations.RseedAndRresetSetTheStateOutright : Prop :=
  ∀ (p0 p1 p2 p3 : Word) (s : State),
    decode (packRecord 0x41#8 p0 p1 p2 p3) = .command (.rseed p0) ∧
    exec (.rseed p0) s = .next { s with
      rqV := ⟨0, p0⟩, responses := s.responses ++ [⟨.ok, 0, 0⟩] } ∧
    decode (packRecord 0x42#8 p0 p1 p2 p3) = .command .rreset ∧
    exec .rreset s = .next { s with
      rqV := s.params.ranq1Const, responses := s.responses ++ [⟨.ok, 0, 0⟩] }

/-- `RNEXT64` advances once and answers the new state; `RNEXT32` takes the same single step and
answers its low word (R168, R170). -/
def Obligations.DrawsAdvanceOnceAndReturnTheNewState : Prop :=
  ∀ (p0 p1 p2 p3 : Word) (s : State),
    decode (packRecord 0x43#8 p0 p1 p2 p3) = .command .rnext64 ∧
    exec .rnext64 s = .next { s with
      rqV := advance s.params s.rqV
      responses := s.responses ++
        [⟨.ok, (advance s.params s.rqV).hi, (advance s.params s.rqV).lo⟩] } ∧
    decode (packRecord 0x44#8 p0 p1 p2 p3) = .command .rnext32 ∧
    exec .rnext32 s = .next { s with
      rqV := advance s.params s.rqV
      responses := s.responses ++ [⟨.ok, 0, (advance s.params s.rqV).lo⟩] }

/-- The all-zero generator state is absorbing under draws: `RNEXT64` and `RNEXT32` answer 0 and leave
it, and a selection in the random branch picks slot 0 (R172). -/
def Obligations.ZeroGeneratorStateIsAbsorbing : Prop :=
  ∀ (s : State) (n maxMisses : Word), s.rqV = ⟨0, 0⟩ →
    exec .rnext64 s = .next { s with responses := s.responses ++ [⟨.ok, 0, 0⟩] } ∧
    exec .rnext32 s = .next { s with responses := s.responses ++ [⟨.ok, 0, 0⟩] } ∧
    (s.nrBound = true → n ≠ 0 →
      counterAt s.nrStats (mostOverdue s.nrStats (offeredSlots n)) + 1 < maxMisses →
      ∃ t, exec (.nselect n maxMisses) s = .next t ∧ t.rqV = ⟨0, 0⟩ ∧
        t.responses = s.responses ++ [⟨.ok, 0, 1⟩])

/-! ### NRan -/

/-- `NBIND` sets `NR_BOUND`, answers no value, and touches nothing else; no command clears
`NR_BOUND` (R182). -/
def Obligations.NbindBinds : Prop :=
  (∀ (i : Instr) (s t : State), exec i s = .next t → s.nrBound = true → t.nrBound = true) ∧
  ∀ (p0 p1 p2 p3 : Word) (s : State),
    decode (packRecord 0x50#8 p0 p1 p2 p3) = .command .nbind ∧
    exec .nbind s = .next { s with
      nrBound := true, responses := s.responses ++ [⟨.ok, 0, 0⟩] }

/-- A bound `NSEED s` zeroes all sixteen counters and leaves `W(0, s)` in `RQ_V`, with no value
answered; an unbound one raises `Unbound` with nothing written (R184). -/
def Obligations.NseedZeroesCountersAndReseeds : Prop :=
  ∀ (p0 p1 p2 p3 : Word) (s : State),
    decode (packRecord 0x51#8 p0 p1 p2 p3) = .command (.nseed p0) ∧
    (s.nrBound = false → exec (.nseed p0) s
      = .next { s with responses := s.responses ++ [⟨.unbound, 0, 0⟩] }) ∧
    (s.nrBound = true → exec (.nseed p0) s = .next { s with
      rqV := ⟨0, p0⟩
      nrStats := Vector.replicate 16 0
      responses := s.responses ++ [⟨.ok, 0, 0⟩] })

/-- `NSELECT` and `NSEED` with `NR_BOUND = 0` are answered by status `UNBOUND` (code 2) with
`r0 = r1 = 0` and write no state, for every operand value (R187, R202). -/
def Obligations.UnboundSelectorAnswersUnbound : Prop :=
  ∀ (n maxMisses seed : Word) (s : State), s.nrBound = false →
    exec (.nselect n maxMisses) s
      = .next { s with responses := s.responses ++ [⟨.unbound, 0, 0⟩] } ∧
    exec (.nseed seed) s
      = .next { s with responses := s.responses ++ [⟨.unbound, 0, 0⟩] } ∧
    (Response.mk .unbound 0 0).record = (2#2 ++ 0#64 : BitVec (2 + 64))

/-- `NSELECT n, maxMisses`, step by step (R186, R188, R189): unbound it raises `Unbound`; bound it
answers 0 for `n = 0`; else `n` is
clamped to 15, the lowest index of the largest counter is forced when its counter plus one, modulo
`2^32`, reaches `maxMisses`, and otherwise one draw modulo the clamped `n` chooses; the chosen
counter is cleared, the other offered ones count up modulo `2^32`, every other counter stays. -/
def Obligations.NselectFollowsTheSevenSteps : Prop :=
  ∀ (n maxMisses p2 p3 : Word) (s : State),
    decode (packRecord 0x52#8 n maxMisses p2 p3) = .command (.nselect n maxMisses) ∧
    (s.nrBound = false → exec (.nselect n maxMisses) s
      = .next { s with responses := s.responses ++ [⟨.unbound, 0, 0⟩] }) ∧
    (s.nrBound = true → n = 0 →
      exec (.nselect n maxMisses) s
        = .next { s with responses := s.responses ++ [⟨.ok, 0, 0⟩] }) ∧
    (s.nrBound = true → n ≠ 0 →
      ∃ (k imin chosen : Nat) (rq : Word64) (stats : Counters),
        k = (if 16 ≤ n.toNat then 15 else n.toNat) ∧
        imin < k ∧
        (∀ i, i < k → counterAt s.nrStats i ≤ counterAt s.nrStats imin) ∧
        (∀ i, i < imin → counterAt s.nrStats i < counterAt s.nrStats imin) ∧
        (if maxMisses.toNat ≤ ((counterAt s.nrStats imin).toNat + 1) % 2 ^ 32 then
           chosen = imin ∧ rq = s.rqV
         else
           chosen = (advance s.params s.rqV).lo.toNat % k ∧ rq = advance s.params s.rqV) ∧
        (∀ i, i < 16 → counterAt stats i =
          if i < k then (if i = chosen then 0 else counterAt s.nrStats i + 1)
          else counterAt s.nrStats i) ∧
        exec (.nselect n maxMisses) s = .next { s with
          rqV := rq, nrStats := stats
          responses := s.responses ++ [⟨.ok, 0, BitVec.ofNat 32 (chosen + 1)⟩] })

/-- The answer of a bound `NSELECT` with `n != 0` lies in `[1, n]`, and in `[1, 15]` for `n >= 16`;
the slot it names has its counter at 0 afterwards (R188, R191). -/
def Obligations.NselectAnswersAnOfferedSlot : Prop :=
  ∀ (n maxMisses : Word) (s : State), s.nrBound = true → n ≠ 0 →
    ∃ (t : State) (x : Word), exec (.nselect n maxMisses) s = .next t ∧
      t.responses = s.responses ++ [⟨.ok, 0, x⟩] ∧
      1 ≤ x.toNat ∧ x.toNat ≤ n.toNat ∧ x.toNat ≤ 15 ∧
      counterAt t.nrStats (x.toNat - 1) = 0

/-- The fairness bound that does hold (R195), as an invariant every `NSELECT n, M` keeps, forced or
random and whatever the generator draws: among the `n` offered counters in descending order the
`k`-th is at most `(M + n - 2) - (k - 1)`. The premise `M + n <= 2^32` is R195's "no counter
wraps". -/
def Obligations.NselectKeepsTheStreakBound : Prop :=
  ∀ (n maxMisses : Word) (s t : State), s.nrBound = true →
    1 ≤ n.toNat → n.toNat ≤ 15 → 1 ≤ maxMisses.toNat → maxMisses.toNat + n.toNat ≤ 2 ^ 32 →
    Safety.streakBound n.toNat maxMisses.toNat s.nrStats →
    exec (.nselect n maxMisses) s = .next t →
    Safety.streakBound n.toNat maxMisses.toNat t.nrStats

/-- The streak bound holds of all-zero counters, and it keeps every offered counter at or below
`M + n - 2` (R195). -/
def Obligations.StreakBoundStartsAndBounds : Prop :=
  ∀ n m : Nat, 1 ≤ n → n ≤ 15 → 1 ≤ m →
    Safety.streakBound n m (Vector.replicate 16 0) ∧
    ∀ (v : Counters) (i : Nat), Safety.streakBound n m v → i < n →
      (counterAt v i).toNat ≤ m + n - 2

/-- The document's own fairness claim ("no candidate's miss-streak can reach `maxMisses`") is false
of the block: from all-zero counters one bound `NSELECT 3, 1` leaves two counters at `maxMisses = 1` right after the update (R194). -/
def Obligations.DocumentFairnessClaimFails : Prop :=
  ∀ s : State, s.nrBound = true → s.nrStats = Vector.replicate 16 0 →
    ∃ t : State, exec (.nselect 3 1) s = .next t ∧
      counterAt t.nrStats 1 = 1 ∧ counterAt t.nrStats 2 = 1

/-! ### Whole-machine rules -/

/-- Only the commands a rule names write each piece of state: `RQ_V` by the five `R` commands,
`NSEED` and `NSELECT` (R23); `NR_STATS` by `NSEED` and `NSELECT` (R24); `NR_BOUND` by `NBIND`, and
no command clears it (R25). Of the model's own fields: no command writes the parameters (R237; log
entry 1) or the inputs that wait (R45; log entry 5), and free values are used up only by a command
outside the host's contract, such as the two cases of R90 and R137 (log entries 4, 10, 11). -/
def Obligations.OnlyTheNamedCommandsWriteState : Prop :=
  ∀ (i : Instr) (s t : State), exec i s = .next t →
    (t.rqV = s.rqV ∨ 0x40 ≤ i.opcode.toNat ∧ i ≠ .nbind) ∧
    (t.nrStats = s.nrStats ∨ i.opcode = 0x51#8 ∨ i.opcode = 0x52#8) ∧
    t.nrBound = (s.nrBound || decide (i = .nbind)) ∧
    t.params = s.params ∧ t.pending = s.pending ∧
    (t.draws = s.draws ∨ Safety.inContract i s = false)

/-- Every step keeps the invariant: the parameters keep the document's constraints (R13, R14), and
slot 15, which only `NSEED` and reset write, holds 0 (R24, R188). -/
def Obligations.EveryStepKeepsTheInvariant : Prop :=
  ∀ s t : State, Safety.invariantHolds s → step s = .next t → Safety.invariantHolds t

/-- The reset state meets the invariant, its default parameters (PRESUMED: log entry 2) included. -/
def Obligations.ResetStateMeetsTheInvariant : Prop := Safety.invariantHolds State.reset

/-- The unspecified values concern result ports only and never state (R237): two steps from states
that differ only in which free values come next leave the same generator state, counters, bound
bit, parameters and waiting inputs, and the same number of responses with the same statuses, so
that only the words `r0`, `r1` of a response can differ. -/
def Obligations.FreeValuesNeverReachTheState : Prop :=
  ∀ (s : State) (k : Nat), ∃ t t' : State,
    step s = .next t ∧ step { s with draws := k } = .next t' ∧
    t'.rqV = t.rqV ∧ t'.nrStats = t.nrStats ∧ t'.nrBound = t.nrBound ∧
    t'.params = t.params ∧ t'.pending = t.pending ∧
    t'.responses.map (·.status) = t.responses.map (·.status)

/-- Inside the host's contract every command answers `OK` with a fully specified result: no free
value is used up, and the answer does not depend on which free values would come next (R233,
R238). -/
def Obligations.InContractCommandsAreSpecified : Prop :=
  ∀ (i : Instr) (s : State), Safety.inContract i s = true →
    ∃ (t : State) (x y : Word),
      exec i s = .next t ∧ t.draws = s.draws ∧
      t.responses = s.responses ++ [⟨.ok, x, y⟩] ∧
      ∀ k : Nat, exec i { s with draws := k } = .next { t with draws := k }
end

