-- ==== Sys2Proof/Laws/Decode.lean ====
section
/-!
SUPPORT. The bits of a packed record and its five fields read back (R53), so that no later proof
unfolds `packRecord` or a field.
-/

namespace Sys2Proof.Laws

variable (op : OpCode) (p0 p1 p2 p3 : Word)

/-- Bit `i` of a packed record, by the table of R53. -/
theorem getLsbD_packRecord (i : Nat) :
    (packRecord op p0 p1 p2 p3).getLsbD i =
      if i < 32 then p3.getLsbD i
      else if i < 64 then p2.getLsbD (i - 32)
      else if i < 96 then p1.getLsbD (i - 64)
      else if i < 128 then p0.getLsbD (i - 96)
      else op.getLsbD (i - 128) := by
  unfold packRecord
  have h := BitVec.getLsbD_append (x := op ++ p0 ++ p1 ++ p2) (y := p3) (i := i)
  refine h.trans ?_
  simp only [BitVec.getLsbD_append, Nat.sub_sub]
  split_ifs <;> first | omega | simp_all

theorem opField_packRecord : opField (packRecord op p0 p1 p2 p3) = op := by
  apply BitVec.eq_of_getLsbD_eq
  intro i hi
  simp only [opField, BitVec.getLsbD_extractLsb', getLsbD_packRecord]
  rw [if_neg (by omega), if_neg (by omega), if_neg (by omega), if_neg (by omega),
    Nat.add_sub_cancel_left]
  simp [hi]

theorem port0_packRecord : port0 (packRecord op p0 p1 p2 p3) = p0 := by
  apply BitVec.eq_of_getLsbD_eq
  intro i hi
  simp only [port0, BitVec.getLsbD_extractLsb', getLsbD_packRecord]
  rw [if_neg (by omega), if_neg (by omega), if_neg (by omega), if_pos (by omega),
    Nat.add_sub_cancel_left]
  simp [hi]

theorem port1_packRecord : port1 (packRecord op p0 p1 p2 p3) = p1 := by
  apply BitVec.eq_of_getLsbD_eq
  intro i hi
  simp only [port1, BitVec.getLsbD_extractLsb', getLsbD_packRecord]
  rw [if_neg (by omega), if_neg (by omega), if_pos (by omega), Nat.add_sub_cancel_left]
  simp [hi]

theorem port2_packRecord : port2 (packRecord op p0 p1 p2 p3) = p2 := by
  apply BitVec.eq_of_getLsbD_eq
  intro i hi
  simp only [port2, BitVec.getLsbD_extractLsb', getLsbD_packRecord]
  rw [if_neg (by omega), if_pos (by omega), Nat.add_sub_cancel_left]
  simp [hi]

theorem port3_packRecord : port3 (packRecord op p0 p1 p2 p3) = p3 := by
  apply BitVec.eq_of_getLsbD_eq
  intro i hi
  simp only [port3, BitVec.getLsbD_extractLsb', getLsbD_packRecord]
  rw [if_pos (by omega), Nat.zero_add]
  simp [hi]

theorem operandA_packRecord : operandA (packRecord op p0 p1 p2 p3) = ⟨p0, p1⟩ := by
  rw [operandA, port0_packRecord, port1_packRecord]

theorem operandB_packRecord : operandB (packRecord op p0 p1 p2 p3) = ⟨p2, p3⟩ := by
  rw [operandB, port2_packRecord, port3_packRecord]

end Sys2Proof.Laws
end

