-- ==== Sys2Proof/Laws/State.lean ====
section
/-!
SUPPORT. One lemma per field per update of State, each true by `rfl`, so that no later proof unfolds
a record update.
-/

namespace Sys2Proof.Machine

variable (s : State)

@[simp] theorem State.setRqV_rqV (w : Word64) : (s.setRqV w).rqV = w := rfl
@[simp] theorem State.setRqV_nrStats (w : Word64) : (s.setRqV w).nrStats = s.nrStats := rfl
@[simp] theorem State.setRqV_nrBound (w : Word64) : (s.setRqV w).nrBound = s.nrBound := rfl
@[simp] theorem State.setRqV_params (w : Word64) : (s.setRqV w).params = s.params := rfl
@[simp] theorem State.setRqV_pending (w : Word64) : (s.setRqV w).pending = s.pending := rfl
@[simp] theorem State.setRqV_responses (w : Word64) : (s.setRqV w).responses = s.responses := rfl
@[simp] theorem State.setRqV_draws (w : Word64) : (s.setRqV w).draws = s.draws := rfl

@[simp] theorem State.setNrStats_rqV (v : Counters) : (s.setNrStats v).rqV = s.rqV := rfl
@[simp] theorem State.setNrStats_nrStats (v : Counters) : (s.setNrStats v).nrStats = v := rfl
@[simp] theorem State.setNrStats_nrBound (v : Counters) : (s.setNrStats v).nrBound = s.nrBound := rfl
@[simp] theorem State.setNrStats_params (v : Counters) : (s.setNrStats v).params = s.params := rfl
@[simp] theorem State.setNrStats_pending (v : Counters) : (s.setNrStats v).pending = s.pending := rfl
@[simp] theorem State.setNrStats_responses (v : Counters) : (s.setNrStats v).responses = s.responses := rfl
@[simp] theorem State.setNrStats_draws (v : Counters) : (s.setNrStats v).draws = s.draws := rfl

@[simp] theorem State.setNrBound_rqV (b : Bool) : (s.setNrBound b).rqV = s.rqV := rfl
@[simp] theorem State.setNrBound_nrStats (b : Bool) : (s.setNrBound b).nrStats = s.nrStats := rfl
@[simp] theorem State.setNrBound_nrBound (b : Bool) : (s.setNrBound b).nrBound = b := rfl
@[simp] theorem State.setNrBound_params (b : Bool) : (s.setNrBound b).params = s.params := rfl
@[simp] theorem State.setNrBound_pending (b : Bool) : (s.setNrBound b).pending = s.pending := rfl
@[simp] theorem State.setNrBound_responses (b : Bool) : (s.setNrBound b).responses = s.responses := rfl
@[simp] theorem State.setNrBound_draws (b : Bool) : (s.setNrBound b).draws = s.draws := rfl

@[simp] theorem State.setPending_rqV (l : List Input) : (s.setPending l).rqV = s.rqV := rfl
@[simp] theorem State.setPending_nrStats (l : List Input) : (s.setPending l).nrStats = s.nrStats := rfl
@[simp] theorem State.setPending_nrBound (l : List Input) : (s.setPending l).nrBound = s.nrBound := rfl
@[simp] theorem State.setPending_params (l : List Input) : (s.setPending l).params = s.params := rfl
@[simp] theorem State.setPending_pending (l : List Input) : (s.setPending l).pending = l := rfl
@[simp] theorem State.setPending_responses (l : List Input) : (s.setPending l).responses = s.responses := rfl
@[simp] theorem State.setPending_draws (l : List Input) : (s.setPending l).draws = s.draws := rfl

@[simp] theorem State.respond_rqV (r : Response) : (s.respond r).rqV = s.rqV := rfl
@[simp] theorem State.respond_nrStats (r : Response) : (s.respond r).nrStats = s.nrStats := rfl
@[simp] theorem State.respond_nrBound (r : Response) : (s.respond r).nrBound = s.nrBound := rfl
@[simp] theorem State.respond_params (r : Response) : (s.respond r).params = s.params := rfl
@[simp] theorem State.respond_pending (r : Response) : (s.respond r).pending = s.pending := rfl
@[simp] theorem State.respond_responses (r : Response) : (s.respond r).responses = s.responses ++ [r] := rfl
@[simp] theorem State.respond_draws (r : Response) : (s.respond r).draws = s.draws := rfl

@[simp] theorem State.skipDraws_rqV (k : Nat) : (s.skipDraws k).rqV = s.rqV := rfl
@[simp] theorem State.skipDraws_nrStats (k : Nat) : (s.skipDraws k).nrStats = s.nrStats := rfl
@[simp] theorem State.skipDraws_nrBound (k : Nat) : (s.skipDraws k).nrBound = s.nrBound := rfl
@[simp] theorem State.skipDraws_params (k : Nat) : (s.skipDraws k).params = s.params := rfl
@[simp] theorem State.skipDraws_pending (k : Nat) : (s.skipDraws k).pending = s.pending := rfl
@[simp] theorem State.skipDraws_responses (k : Nat) : (s.skipDraws k).responses = s.responses := rfl
@[simp] theorem State.skipDraws_draws (k : Nat) : (s.skipDraws k).draws = s.draws + k := rfl

end Sys2Proof.Machine
end

