-- ==== Sys2Proof/Laws/Ops.lean ====
section
/-!
SUPPORT. What each shared operation does, said once: the responses, the free values, the errors, the
reset event, and the selector's scan and update.
-/

namespace Sys2Proof.Machine

/-- Everything `answer64` does. -/
theorem answer64_eq (w : Word64) (s : State) :
    answer64 w s = { s with responses := s.responses ++ [⟨.ok, w.hi, w.lo⟩] } := rfl

/-- Everything `answerPair` does. -/
theorem answerPair_eq (p : Word × Word) (s : State) :
    answerPair p s = { s with responses := s.responses ++ [⟨.ok, p.1, p.2⟩] } := rfl

/-- Everything `answer32` does. -/
theorem answer32_eq (x : Word) (s : State) :
    answer32 x s = { s with responses := s.responses ++ [⟨.ok, 0, x⟩] } := rfl

/-- Everything `answerNone` does. -/
theorem answerNone_eq (s : State) :
    answerNone s = { s with responses := s.responses ++ [⟨.ok, 0, 0⟩] } := rfl

/-- Everything `answerFree` does: two free values delivered, the count moved on, nothing else. -/
theorem answerFree_eq (s : State) :
    answerFree s =
      { s with
        responses :=
          s.responses ++ [⟨.ok, Config.any32 s.draws, Config.any32 (s.draws + 1)⟩]
        draws := s.draws + 2 } := rfl

/-- A shift or rotate by less than 64 delivers the function's result. -/
theorem answerShift_of_lt (f : Word64 → Nat → Word64) (a : Word64) (n : Word) (s : State)
    (h : n.toNat < 64) : answerShift f a n s = answer64 (f a n.toNat) s := if_pos h

/-- A shift or rotate by 64 or more delivers two free values. -/
theorem answerShift_of_ge (f : Word64 → Nat → Word64) (a : Word64) (n : Word) (s : State)
    (h : 64 ≤ n.toNat) : answerShift f a n s = answerFree s := if_neg (by omega)

/-- Everything raising an error does. -/
theorem raise_eq (c : Cause) (s : State) :
    raise c s = { s with responses := s.responses ++ [⟨causeStatus c, 0, 0⟩] } := rfl

/-- Everything the reset event does. -/
theorem resetEvent_eq (s : State) :
    resetEvent s =
      { s with
        rqV := constructState s.params 0
        nrStats := Vector.replicate Config.maxTokens 0
        nrBound := false } := rfl

/-- A counter by number, in range. -/
theorem counterAt_of_lt (v : Counters) {i : Nat} (h : i < Config.maxTokens) :
    counterAt v i = v[i] := dif_pos h

/-- The counters after `tally`, by number. -/
theorem counterAt_tally (v : Counters) (n chosen : Nat) {i : Nat} (h : i < Config.maxTokens) :
    counterAt (tally v n chosen) i =
      if i < n then (if i = chosen then 0 else counterAt v i + 1) else counterAt v i := by
  simp [counterAt, tally, h]

/-- The counters right after reset or `NSEED`, by number. -/
theorem counterAt_zeros (i : Nat) : counterAt (Vector.replicate Config.maxTokens 0) i = 0 := by
  unfold counterAt; split <;> simp

/-- The scan answers a slot of the range it scanned. -/
theorem mostOverdue_lt (v : Counters) {n : Nat} (h : 0 < n) : mostOverdue v n < n := by
  induction n with
  | zero => omega
  | succ k ih =>
    simp only [mostOverdue]
    split
    · omega
    · rcases Nat.eq_zero_or_pos k with rfl | hk
      · simp [mostOverdue]
      · have := ih hk; omega

end Sys2Proof.Machine
end

