-- ==== Sys2Proof/Laws/PerInstr.lean ====
section
/-!
SUPPORT. A fact about every command as syntax, one lemma per constructor: its `op` is not reserved
and its record carries that `op` (R57, R59).
-/

namespace Sys2Proof.Laws

/-- The record of `i` carries the `op` of `i`, and that `op` is none of the reserved values. -/
def EncodedOpcode.Statement (i : Instr) : Prop :=
  opField (encode i) = i.opcode ∧ opReserved i.opcode = false

theorem EncodedOpcode.wmuladd (a b c : Word) : EncodedOpcode.Statement (.wmuladd a b c) :=
  ⟨opField_packRecord _ _ _ _ _, rfl⟩

theorem EncodedOpcode.wmoddiv (a c m : Word) : EncodedOpcode.Statement (.wmoddiv a c m) :=
  ⟨opField_packRecord _ _ _ _ _, rfl⟩

theorem EncodedOpcode.add (a b : Word64) : EncodedOpcode.Statement (.add a b) :=
  ⟨opField_packRecord _ _ _ _ _, rfl⟩

theorem EncodedOpcode.sub (a b : Word64) : EncodedOpcode.Statement (.sub a b) :=
  ⟨opField_packRecord _ _ _ _ _, rfl⟩

theorem EncodedOpcode.mulu (a : Word64) (v : Word) : EncodedOpcode.Statement (.mulu a v) :=
  ⟨opField_packRecord _ _ _ _ _, rfl⟩

theorem EncodedOpcode.muls (a : Word64) (v : Word) : EncodedOpcode.Statement (.muls a v) :=
  ⟨opField_packRecord _ _ _ _ _, rfl⟩

theorem EncodedOpcode.mul64 (a b : Word64) : EncodedOpcode.Statement (.mul64 a b) :=
  ⟨opField_packRecord _ _ _ _ _, rfl⟩

theorem EncodedOpcode.divu (a : Word64) (v : Word) : EncodedOpcode.Statement (.divu a v) :=
  ⟨opField_packRecord _ _ _ _ _, rfl⟩

theorem EncodedOpcode.divs (a : Word64) (v : Word) : EncodedOpcode.Statement (.divs a v) :=
  ⟨opField_packRecord _ _ _ _ _, rfl⟩

theorem EncodedOpcode.neg (a : Word64) : EncodedOpcode.Statement (.neg a) :=
  ⟨opField_packRecord _ _ _ _ _, rfl⟩

theorem EncodedOpcode.shl (a : Word64) (n : Word) : EncodedOpcode.Statement (.shl a n) :=
  ⟨opField_packRecord _ _ _ _ _, rfl⟩

theorem EncodedOpcode.shr (a : Word64) (n : Word) : EncodedOpcode.Statement (.shr a n) :=
  ⟨opField_packRecord _ _ _ _ _, rfl⟩

theorem EncodedOpcode.rotl (a : Word64) (n : Word) : EncodedOpcode.Statement (.rotl a n) :=
  ⟨opField_packRecord _ _ _ _ _, rfl⟩

theorem EncodedOpcode.rotr (a : Word64) (n : Word) : EncodedOpcode.Statement (.rotr a n) :=
  ⟨opField_packRecord _ _ _ _ _, rfl⟩

theorem EncodedOpcode.sign (a : Word64) : EncodedOpcode.Statement (.sign a) :=
  ⟨opField_packRecord _ _ _ _ _, rfl⟩

theorem EncodedOpcode.cmps (a b : Word64) : EncodedOpcode.Statement (.cmps a b) :=
  ⟨opField_packRecord _ _ _ _ _, rfl⟩

theorem EncodedOpcode.cmpu (a b : Word64) : EncodedOpcode.Statement (.cmpu a b) :=
  ⟨opField_packRecord _ _ _ _ _, rfl⟩

theorem EncodedOpcode.tou32 (a : Word64) : EncodedOpcode.Statement (.tou32 a) :=
  ⟨opField_packRecord _ _ _ _ _, rfl⟩

theorem EncodedOpcode.cvtu (x : Word) : EncodedOpcode.Statement (.cvtu x) :=
  ⟨opField_packRecord _ _ _ _ _, rfl⟩

theorem EncodedOpcode.cvts (x : Word) : EncodedOpcode.Statement (.cvts x) :=
  ⟨opField_packRecord _ _ _ _ _, rfl⟩

theorem EncodedOpcode.mk64 (h l : Word) : EncodedOpcode.Statement (.mk64 h l) :=
  ⟨opField_packRecord _ _ _ _ _, rfl⟩

theorem EncodedOpcode.rcons (seed : Word) : EncodedOpcode.Statement (.rcons seed) :=
  ⟨opField_packRecord _ _ _ _ _, rfl⟩

theorem EncodedOpcode.rseed (seed : Word) : EncodedOpcode.Statement (.rseed seed) :=
  ⟨opField_packRecord _ _ _ _ _, rfl⟩

theorem EncodedOpcode.rreset : EncodedOpcode.Statement (.rreset) :=
  ⟨opField_packRecord _ _ _ _ _, rfl⟩

theorem EncodedOpcode.rnext64 : EncodedOpcode.Statement (.rnext64) :=
  ⟨opField_packRecord _ _ _ _ _, rfl⟩

theorem EncodedOpcode.rnext32 : EncodedOpcode.Statement (.rnext32) :=
  ⟨opField_packRecord _ _ _ _ _, rfl⟩

theorem EncodedOpcode.nbind : EncodedOpcode.Statement (.nbind) :=
  ⟨opField_packRecord _ _ _ _ _, rfl⟩

theorem EncodedOpcode.nseed (seed : Word) : EncodedOpcode.Statement (.nseed seed) :=
  ⟨opField_packRecord _ _ _ _ _, rfl⟩

theorem EncodedOpcode.nselect (n maxMisses : Word) :
    EncodedOpcode.Statement (.nselect n maxMisses) :=
  ⟨opField_packRecord _ _ _ _ _, rfl⟩

end Sys2Proof.Laws
end

