-- ==== Sys2Proof/Laws/Step.lean ====
section
/-!
SUPPORT. What one step can do, said once: every case of taking the oldest input.
-/

namespace Sys2Proof.Machine

/-- Taking the oldest input, case by case. -/
theorem nextTask_cases (s : State) :
    (s.pending = [] ∧ nextTask s = .idle) ∨
    (∃ r rest i, s.pending = .command r :: rest ∧ decode r = .command i ∧
      nextTask s = .run i (s.setPending rest)) ∨
    (∃ r rest op, s.pending = .command r :: rest ∧ decode r = .illegal op ∧
      nextTask s = .illegal (s.setPending rest)) ∨
    (∃ x rest, s.pending = x :: rest ∧ (x = .reset ∨ ∃ r, x = .resetDuring r) ∧
      nextTask s = .resetting (s.setPending rest)) := by
  unfold nextTask
  split
  · exact .inl ⟨‹_›, rfl⟩
  · rename_i r rest hp
    split
    · exact .inr (.inl ⟨r, rest, _, hp, ‹_›, rfl⟩)
    · exact .inr (.inr (.inl ⟨r, rest, _, hp, ‹_›, rfl⟩))
  · exact .inr (.inr (.inr ⟨_, _, ‹_›, .inl rfl, rfl⟩))
  · exact .inr (.inr (.inr ⟨_, _, ‹_›, .inr ⟨_, rfl⟩, rfl⟩))

/-- Placing a record ahead of the other inputs changes nothing else. -/
theorem withFetchWord_eq (s : State) (nbits w : Nat) :
    s.withFetchWord nbits w = s.setPending (.command (tableRecord nbits w) :: s.pending) := rfl

end Sys2Proof.Machine
end

