-- ==== Sys2Proof/Tests/Slice0.lean ====
section
/-!
SUPPORT. The implementer's own tests. Expected values are the spec's: its worked examples, the
opcode map (R57), and the vectors of `spec/95_test_vectors.md`; each theorem names its source.
The last part shows, for every statement with hypotheses, a concrete case that meets them.
-/

namespace Sys2Proof.Tests

open Sys2Proof.Machine

/-- The response a command is answered with, if it completes. -/
def answerOf (i : Instr) (s : State) : Option Response :=
  match exec i s with
  | .next t => t.responses.getLast?
  | _ => none

/-- The generator state a command leaves. -/
def rqAfter (i : Instr) (s : State) : Option Word64 :=
  match exec i s with
  | .next t => some t.rqV
  | _ => none

/-- The counters a command leaves. -/
def statsAfter (i : Instr) (s : State) : Option Counters :=
  match exec i s with
  | .next t => some t.nrStats
  | _ => none

/-- The reset state with the given generator state. -/
def withGenerator (w : Word64) : State := { State.reset with rqV := w }

/-- A bound selector over the given counters and generator state. -/
def boundWith (v : Counters) (w : Word64) : State :=
  { State.reset with nrBound := true, nrStats := v, rqV := w }

/-! ### WellFormed: each check refuses an ill-formed term -/

theorem test_wf_op_range1 : opReserved 0x00#8 = true ∧ opReserved 0x0F#8 = true ∧
    opReserved 0x10#8 = false ∧ opReserved 0x11#8 = false := by decide
theorem test_wf_op_range2 : opReserved 0x12#8 = true ∧ opReserved 0x1F#8 = true ∧
    opReserved 0x20#8 = false ∧ opReserved 0x32#8 = false := by decide
theorem test_wf_op_range3 : opReserved 0x33#8 = true ∧ opReserved 0x3F#8 = true ∧
    opReserved 0x40#8 = false ∧ opReserved 0x44#8 = false := by decide
theorem test_wf_op_range4 : opReserved 0x45#8 = true ∧ opReserved 0x4F#8 = true ∧
    opReserved 0x50#8 = false ∧ opReserved 0x52#8 = false := by decide
theorem test_wf_op_range5 : opReserved 0x53#8 = true ∧ opReserved 0xFF#8 = true := by decide
theorem test_wf_record_refused : recordWellFormed 0x1200000001000000020000000300000004#136 = false
    ∧ recordWellFormed 0x10123456789ABCDEF00FEDCBA900000000#136 = true := by decide
theorem test_wf_params_const_even :
    ({ Config.defaultParams with ranq1Const := ⟨1, 2⟩ } : Config.Params).wellFormed = false := by
  decide
theorem test_wf_params_mult_even :
    ({ Config.defaultParams with ranq1Mult := ⟨1, 0⟩ } : Config.Params).wellFormed = false := by
  decide
theorem test_wf_params_default : Config.defaultParams.wellFormed = true := by decide

/-! ### Decode: every constructor, from a record written out by R53, R54 and R57 -/

theorem test_decode_wmuladd : decode 0x10123456789ABCDEF00FEDCBA9DEADBEEF#136
    = .command (.wmuladd 0x12345678#32 0x9ABCDEF0#32 0x0FEDCBA9#32) := by decide
theorem test_decode_wmoddiv : decode 0x1100001234_56789ABC_DEF01234_FFFFFFFF#136
    = .command (.wmoddiv 0x00001234#32 0x56789ABC#32 0xDEF01234#32) := by decide
theorem test_decode_add : decode 0x2000000001_00000002_00000003_00000004#136
    = .command (.add ⟨1, 2⟩ ⟨3, 4⟩) := by decide
theorem test_decode_sub : decode 0x2100000001_00000002_00000003_00000004#136
    = .command (.sub ⟨1, 2⟩ ⟨3, 4⟩) := by decide
theorem test_decode_mulu : decode 0x2212345678_9ABCDEF0_87654321_00000009#136
    = .command (.mulu ⟨0x12345678#32, 0x9ABCDEF0#32⟩ 0x87654321#32) := by decide
theorem test_decode_muls : decode 0x2300000001_00000002_FFFFFFFD_00000009#136
    = .command (.muls ⟨1, 2⟩ 0xFFFFFFFD#32) := by decide
theorem test_decode_mul64 : decode 0x2412345678_9ABCDEF0_0FEDCBA9_87654321#136
    = .command (.mul64 ⟨0x12345678#32, 0x9ABCDEF0#32⟩ ⟨0x0FEDCBA9#32, 0x87654321#32⟩) := by decide
theorem test_decode_divu : decode 0x2500000000_0365D3C8_000003E8_00000009#136
    = .command (.divu ⟨0, 0x0365D3C8#32⟩ 0x000003E8#32) := by decide
theorem test_decode_divs : decode 0x2600000000_0365D3C9_FFFFFC18_00000009#136
    = .command (.divs ⟨0, 0x0365D3C9#32⟩ 0xFFFFFC18#32) := by decide
theorem test_decode_neg : decode 0x270000000000000001AAAAAAAA55555555#136
    = .command (.neg ⟨0, 1⟩) := by decide
theorem test_decode_shl : decode 0x2812345678_9ABCDEF0_00000023_00000009#136
    = .command (.shl ⟨0x12345678#32, 0x9ABCDEF0#32⟩ 35) := by decide
theorem test_decode_shr : decode 0x2900000001_00000002_00000004_00000009#136
    = .command (.shr ⟨1, 2⟩ 4) := by decide
theorem test_decode_rotl : decode 0x2A00000001_00000002_00000004_00000009#136
    = .command (.rotl ⟨1, 2⟩ 4) := by decide
theorem test_decode_rotr : decode 0x2B12345678_9ABCDEF0_00000004_00000000#136
    = .command (.rotr ⟨0x12345678#32, 0x9ABCDEF0#32⟩ 4) := by decide
theorem test_decode_sign : decode 0x2CFFFFFFFF_FFFF2153_00000008_00000009#136
    = .command (.sign ⟨0xFFFFFFFF#32, 0xFFFF2153#32⟩) := by decide
theorem test_decode_cmps : decode 0x2DFFFFFFFF_FFFFFFFE_00000000_00000001#136
    = .command (.cmps ⟨0xFFFFFFFF#32, 0xFFFFFFFE#32⟩ ⟨0, 1⟩) := by decide
theorem test_decode_cmpu : decode 0x2E00000001_00000002_00000003_00000004#136
    = .command (.cmpu ⟨1, 2⟩ ⟨3, 4⟩) := by decide
theorem test_decode_tou32 : decode 0x2F00000001_00000002_00000003_00000004#136
    = .command (.tou32 ⟨1, 2⟩) := by decide
theorem test_decode_cvtu : decode 0x3080000001_00000002_00000003_00000004#136
    = .command (.cvtu 0x80000001#32) := by decide
theorem test_decode_cvts : decode 0x3180000000_00000002_00000003_00000004#136
    = .command (.cvts 0x80000000#32) := by decide
theorem test_decode_mk64 : decode 0x3212345678_9ABCDEF0_00000003_00000004#136
    = .command (.mk64 0x12345678#32 0x9ABCDEF0#32) := by decide
theorem test_decode_rcons : decode 0x400000002A_00000002_00000003_00000004#136
    = .command (.rcons 42) := by decide
theorem test_decode_rseed : decode 0x4100000001_00000002_00000003_00000004#136
    = .command (.rseed 1) := by decide
theorem test_decode_rreset : decode 0x4211111111222222223333333344444444#136
    = .command .rreset := by decide
theorem test_decode_rnext64 : decode 0x4311111111222222223333333344444444#136
    = .command .rnext64 := by decide
theorem test_decode_rnext32 : decode 0x4411111111222222223333333344444444#136
    = .command .rnext32 := by decide
theorem test_decode_nbind : decode 0x5011111111222222223333333344444444#136
    = .command .nbind := by decide
theorem test_decode_nseed : decode 0x5100000006_00000002_00000003_00000004#136
    = .command (.nseed 6) := by decide
theorem test_decode_nselect : decode 0x5200000003_00000002_00000007_00000008#136
    = .command (.nselect 3 2) := by decide
theorem test_decode_reserved : decode 0x5300000003000000020000000000000000#136 = .illegal 0x53#8
    ∧ decode 0x0000000000000000000000000000000000#136 = .illegal 0x00#8
    ∧ decode 0xFFFFFFFFFFFFFFFFFFFFFFFFFFFFFFFFFF#136 = .illegal 0xFF#8 := by decide
/-- 95 section 8.1, row 1. -/
theorem test_encode_wmuladd : encode (.wmuladd 0x12345678#32 0x9ABCDEF0#32 0x0FEDCBA9#32)
    = 0x10123456789ABCDEF00FEDCBA900000000#136 := by decide
theorem test_table_word : decodeTableWord 136 0x5200000000000000000000000000000000
    = some (.nselect 0 0) ∧ decodeTableWord 136 0 = none := by decide
/-- R56: the status field of the response record. -/
theorem test_response_record :
    (Response.mk .unbound 0 0).record = 0x20000000000000000#66 ∧
    (Response.mk .ok 0x0B00EA4E#32 0x341AEC29#32).record = 0x00B00EA4E341AEC29#66 := by decide
/-- R63: `DIVS 0x00000000_0365D3C9, -1000` (95, program P4, row 8). -/
theorem test_assemble_divs : assemble .divs [.dword 0x365D3C9, .minus 1000]
    = some 0x26000000000365D3C9FFFFFC1800000000#136 := by decide
/-- R63: a minus sign is no `u32` literal. -/
theorem test_assemble_refuses : assemble .divu [.dword 5, .minus 1] = none := by decide
/-- R48: the printed form of a record (95 section 8.1). -/
theorem test_listing : recordListing 0x2DFFFFFFFFFFFFFFFF0000000000000000#136
    = "2D FFFFFFFF FFFFFFFF 00000000 00000000".toList := by decide

/-! ### Commands: one or two vectors each, from the tables of 95 -/

theorem test_wmuladd_example : answerOf (.wmuladd 0x12345678#32 0x9ABCDEF0#32 0x0FEDCBA9#32) State.reset
    = some ⟨.ok, 0x0B00EA4E#32, 0x341AEC29#32⟩ := by decide
theorem test_wmuladd_largest : answerOf (.wmuladd 0xFFFFFFFF#32 0xFFFFFFFF#32 0xFFFFFFFF#32) State.reset
    = some ⟨.ok, 0xFFFFFFFF#32, 0x00000000#32⟩ := by decide
theorem test_datapath_middle_carry : wideMulAddDatapath 0x0001FFFF#32 0x0001FFFF#32 0
    = (3, 0xFFFC0001#32) := by decide
theorem test_wmoddiv_general : answerOf (.wmoddiv 0x00001234#32 0x56789ABC#32 0xDEF01234#32) State.reset
    = some ⟨.ok, 0x000014E7#32, 0x6A6C1DD0#32⟩ := by decide
/-- R90: `m = 0` completes with status `OK` and leaves the generator alone. -/
theorem test_wmoddiv_zero_modulus : (answerOf (.wmoddiv 0 5 0) State.reset).map (·.status)
    = some .ok ∧ rqAfter (.wmoddiv 0 5 0) State.reset = some State.reset.rqV := ⟨rfl, rfl⟩
theorem test_restoring_carry : restoringDivide 0x80000000#32 0 0x80000001#32
    = (0xFFFFFFFE#32, 2) := by decide +kernel
theorem test_add_carry : answerOf (.add ⟨0, 0xFFFFFFFF#32⟩ ⟨0, 1⟩) State.reset
    = some ⟨.ok, 0x00000001#32, 0x00000000#32⟩ := by decide
theorem test_add_general : answerOf (.add ⟨0x12345678#32, 0x9ABCDEF0#32⟩ ⟨0x0FEDCBA9#32, 0x87654321#32⟩) State.reset
    = some ⟨.ok, 0x22222222#32, 0x22222211#32⟩ := by decide
theorem test_sub_borrow : answerOf (.sub ⟨1, 0⟩ ⟨0, 1⟩) State.reset
    = some ⟨.ok, 0x00000000#32, 0xFFFFFFFF#32⟩ := by decide
theorem test_sub_general : answerOf (.sub ⟨0x12345678#32, 0x9ABCDEF0#32⟩ ⟨0x0FEDCBA9#32, 0x87654321#32⟩) State.reset
    = some ⟨.ok, 0x02468ACF#32, 0x13579BCF#32⟩ := by decide
theorem test_neg_low_zero : answerOf (.neg ⟨1, 0⟩) State.reset
    = some ⟨.ok, 0xFFFFFFFF#32, 0x00000000#32⟩ := by decide
theorem test_neg_general : answerOf (.neg ⟨0x12345678#32, 0x9ABCDEF0#32⟩) State.reset
    = some ⟨.ok, 0xEDCBA987#32, 0x65432110#32⟩ := by decide
theorem test_mulu_carry : answerOf (.mulu ⟨0, 0xFFFFFFFF#32⟩ 0xFFFFFFFF#32) State.reset
    = some ⟨.ok, 0xFFFFFFFE#32, 0x00000001#32⟩ := by decide
theorem test_mulu_general : answerOf (.mulu ⟨0x12345678#32, 0x9ABCDEF0#32⟩ 0x87654321#32) State.reset
    = some ⟨.ok, 0xC28F5C1F#32, 0xE5618CF0#32⟩ := by decide
theorem test_muls_negative : answerOf (.muls ⟨0, 5⟩ 0xFFFFFFFD#32) State.reset
    = some ⟨.ok, 0xFFFFFFFF#32, 0xFFFFFFF1#32⟩ := by decide
theorem test_muls_most_negative : answerOf (.muls ⟨0, 3⟩ 0x80000000#32) State.reset
    = some ⟨.ok, 0xFFFFFFFE#32, 0x80000000#32⟩ := by decide
theorem test_mul64_general : answerOf (.mul64 ⟨0x12345678#32, 0x9ABCDEF0#32⟩ ⟨0x0FEDCBA9#32, 0x87654321#32⟩) State.reset
    = some ⟨.ok, 0x2236D88F#32, 0xE5618CF0#32⟩ := by decide
theorem test_mul64_cross_term : answerOf (.mul64 ⟨0, 3⟩ ⟨1, 0⟩) State.reset
    = some ⟨.ok, 0x00000003#32, 0x00000000#32⟩ := by decide
theorem test_divu_general : answerOf (.divu ⟨0x12345678#32, 0x9ABCDEF0#32⟩ 10) State.reset
    = some ⟨.ok, 0x01D208A5#32, 0xA912E318#32⟩ := by decide
theorem test_divu_pass_through : answerOf (.divu ⟨0x12345678#32, 0x9ABCDEF0#32⟩ 0) State.reset
    = some ⟨.ok, 0x12345678#32, 0x9ABCDEF0#32⟩ := by decide
theorem test_divs_unsigned_dividend : answerOf (.divs ⟨0xFFFFFFFF#32, 0xFFFFFF9C#32⟩ 7) State.reset
    = some ⟨.ok, 0x24924924#32, 0x92492484#32⟩ := by decide
theorem test_divs_minus_one : answerOf (.divs ⟨0x12345678#32, 0x9ABCDEF0#32⟩ 0xFFFFFFFF#32) State.reset
    = some ⟨.ok, 0xEDCBA987#32, 0x65432110#32⟩ := by decide
theorem test_shl_straddle : answerOf (.shl ⟨0x12345678#32, 0x9ABCDEF0#32⟩ 21) State.reset
    = some ⟨.ok, 0xCF13579B#32, 0xDE000000#32⟩ := by decide
theorem test_shl_whole_word : answerOf (.shl ⟨0x12345678#32, 0x9ABCDEF0#32⟩ 35) State.reset
    = some ⟨.ok, 0xD5E6F780#32, 0x00000000#32⟩ := by decide
theorem test_shr_straddle : answerOf (.shr ⟨0x80000000#32, 1⟩ 1) State.reset
    = some ⟨.ok, 0x40000000#32, 0x00000000#32⟩ := by decide
theorem test_shr_whole_word : answerOf (.shr ⟨0x12345678#32, 0x9ABCDEF0#32⟩ 33) State.reset
    = some ⟨.ok, 0x00000000#32, 0x091A2B3C#32⟩ := by decide
theorem test_rotl_straddle : answerOf (.rotl ⟨0x12345678#32, 0x9ABCDEF0#32⟩ 4) State.reset
    = some ⟨.ok, 0x23456789#32, 0xABCDEF01#32⟩ := by decide
theorem test_rotl_whole_word : answerOf (.rotl ⟨0x12345678#32, 0x9ABCDEF0#32⟩ 48) State.reset
    = some ⟨.ok, 0xDEF01234#32, 0x56789ABC#32⟩ := by decide
theorem test_rotr_straddle : answerOf (.rotr ⟨0x12345678#32, 0x9ABCDEF0#32⟩ 4) State.reset
    = some ⟨.ok, 0x01234567#32, 0x89ABCDEF#32⟩ := by decide
theorem test_rotr_whole_word : answerOf (.rotr ⟨0x12345678#32, 0x9ABCDEF0#32⟩ 35) State.reset
    = some ⟨.ok, 0x13579BDE#32, 0x02468ACF#32⟩ := by decide
theorem test_sign_negative : answerOf (.sign ⟨0x80000000#32, 0⟩) State.reset
    = some ⟨.ok, 0, 0xFFFFFFFF#32⟩ := by decide
theorem test_sign_high_only : answerOf (.sign ⟨1, 0⟩) State.reset
    = some ⟨.ok, 0, 0x00000001#32⟩ := by decide
theorem test_cmps_signs_differ : answerOf (.cmps ⟨0xFFFFFFFF#32, 0xFFFFFFFF#32⟩ ⟨0, 0⟩) State.reset
    = some ⟨.ok, 0, 0xFFFFFFFF#32⟩ := by decide
theorem test_cmps_two_negatives : answerOf (.cmps ⟨0xFFFFFFFF#32, 0xFFFFFFFF#32⟩ ⟨0xFFFFFFFF#32, 0xFFFFFFFE#32⟩) State.reset
    = some ⟨.ok, 0, 0x00000001#32⟩ := by decide
theorem test_cmpu_high_first : answerOf (.cmpu ⟨1, 0⟩ ⟨0, 0xFFFFFFFF#32⟩) State.reset
    = some ⟨.ok, 0, 0x00000001#32⟩ := by decide
theorem test_cmpu_unsigned : answerOf (.cmpu ⟨0x7FFFFFFF#32, 0xFFFFFFFF#32⟩ ⟨0x80000000#32, 0⟩) State.reset
    = some ⟨.ok, 0, 0xFFFFFFFF#32⟩ := by decide
theorem test_tou32_low : answerOf (.tou32 ⟨0x12345678#32, 0x9ABCDEF0#32⟩) State.reset
    = some ⟨.ok, 0, 0x9ABCDEF0#32⟩ := by decide
theorem test_cvtu_zero_extends : answerOf (.cvtu 0xFFFFFFFF#32) State.reset
    = some ⟨.ok, 0x00000000#32, 0xFFFFFFFF#32⟩ := by decide
theorem test_cvts_sign_extends : answerOf (.cvts 0x80000000#32) State.reset
    = some ⟨.ok, 0xFFFFFFFF#32, 0x80000000#32⟩ := by decide
theorem test_cvts_positive : answerOf (.cvts 0x7FFFFFFF#32) State.reset
    = some ⟨.ok, 0x00000000#32, 0x7FFFFFFF#32⟩ := by decide
theorem test_mk64_copies : answerOf (.mk64 0x12345678#32 0x9ABCDEF0#32) State.reset
    = some ⟨.ok, 0x12345678#32, 0x9ABCDEF0#32⟩ := by decide
theorem test_rcons_forty_two : rqAfter (.rcons 42) State.reset
    = some ⟨0x28D576F2#32, 0xCA6762B9#32⟩ := by decide
theorem test_rcons_all_ones : rqAfter (.rcons 0xFFFFFFFF#32) State.reset
    = some ⟨0x5BE58E35#32, 0xBC7354F1#32⟩ := by decide
theorem test_rseed_one : rqAfter (.rseed 1) State.reset
    = some ⟨0x00000000#32, 0x00000001#32⟩ := by decide
theorem test_rreset_constant : rqAfter (.rreset) State.reset
    = some ⟨0x38ECAC5F#32, 0xB3251641#32⟩ := by decide
theorem test_rnext64_first_draw : answerOf (.rnext64) State.reset
    = some ⟨.ok, 0xCB33AD5A#32, 0x719BA8EC#32⟩ := by decide
theorem test_rnext64_from_one : rqAfter (.rnext64) (withGenerator ⟨0, 1⟩)
    = some ⟨0x48634C07#32, 0xCF6CDD1D#32⟩ := by decide
theorem test_rnext32_after_rcons_42 : answerOf (.rnext32) (withGenerator ⟨0x28D576F2#32, 0xCA6762B9#32⟩)
    = some ⟨.ok, 0, 0x19C21594#32⟩ := by decide
theorem test_rnext32_state : rqAfter (.rnext32) (withGenerator ⟨0, 6⟩)
    = some ⟨0xB253C82E#32, 0xDC8D2EAE#32⟩ := by decide
theorem test_nbind : answerOf .nbind State.reset = some ⟨.ok, 0, 0⟩ := by decide
theorem test_nseed_unbound : answerOf (.nseed 5) State.reset = some ⟨.unbound, 0, 0⟩ := by decide
theorem test_nseed_bound : statsAfter (.nseed 6)
      (boundWith #v[1, 2, 3, 4, 5, 6, 7, 8, 9, 10, 11, 12, 13, 14, 15, 16] ⟨7, 7⟩)
    = some (Vector.replicate 16 0) := by decide
/-- 95 section 7.2, step 3: the random branch. -/
theorem test_nselect_random : statsAfter (.nselect 3 2) (boundWith (Vector.replicate 16 0) ⟨0, 6⟩)
    = some #v[1, 1, 0, 0, 0, 0, 0, 0, 0, 0, 0, 0, 0, 0, 0, 0] := by decide
/-- 95 section 7.5, row 2: `n = 20` is clamped to 15, the draw picks slot 12. -/
theorem test_nselect_clamped : answerOf (.nselect 20 100)
      (boundWith (Vector.replicate 16 0) State.reset.rqV)
    = some ⟨.ok, 0, 13⟩ := by decide +kernel
/-- 95 section 1.1, call 1: the document's mock generator answers 5. -/
theorem test_select_mock_random :
    selectWith (fun k : Nat => (5, k + 1)) 3 2 (Vector.replicate 16 0) 0
    = ⟨3, #v[1, 1, 0, 0, 0, 0, 0, 0, 0, 0, 0, 0, 0, 0, 0, 0], 1⟩ := by decide
/-- 95 section 1.1, call 3: forced, and the mock generator is not called. -/
theorem test_select_mock_forced :
    selectWith (fun k : Nat => (5, k + 1)) 3 2
      #v[0, 2, 1, 0, 0, 0, 0, 0, 0, 0, 0, 0, 0, 0, 0, 0] 1
    = ⟨2, #v[1, 0, 2, 0, 0, 0, 0, 0, 0, 0, 0, 0, 0, 0, 0, 0], 1⟩ := by decide

/-! ### The step -/

/-- The record of `decodeTableWord` is what the next step executes. -/
theorem test_step_runs_the_presented_record :
    step (State.reset.withFetchWord 136 0x4300000000000000000000000000000000)
      = exec .rnext64 State.reset := rfl
/-- 95 section 8.2: a reserved `op` and a reset during a command. -/
theorem test_step_illegal_leaves_the_generator :
    (match step (State.reset.withFetchWord 136 0x5300000000000000000000000000000000) with
      | .next t => some (t.rqV, t.responses) | _ => none)
      = some (State.reset.rqV, [⟨.illegalOp, 0, 0⟩]) := by decide
theorem test_reset_during_a_command :
    step { State.reset with
      rqV := ⟨0, 1⟩, nrBound := true, pending := [.resetDuring (encode .rnext64)] }
      = .next State.reset := by rfl

/-! ### Witnesses: a concrete case that meets the hypotheses of each statement that has some -/

/-- A state in which one record waits. -/
def waiting (r : CommandRecord) : State := { State.reset with pending := [.command r] }

theorem witness_DecodeEncodeRoundTrip : (Instr.add ⟨1, 2⟩ ⟨3, 4⟩).wellFormed = true := rfl
theorem witness_EncodeClearsUnreadPorts :
    decode 0x270000000000000001AAAAAAAA55555555#136 = .command (.neg ⟨0, 1⟩) := by decide
theorem witness_StepRunsTheDecodedCommand :
    (waiting (encode .nbind)).pending = .command (encode .nbind) :: [] ∧
    decode (encode .nbind) = .command .nbind ∧ Instr.nbind.wellFormed = true := by decide
theorem witness_ReservedRecordAnswersIllegalOp :
    (waiting 0).pending = .command 0 :: [] ∧
    opReserved ((0 : CommandRecord).extractLsb' 128 8) = true := by decide
theorem witness_ErrorResponsesWriteNoState :
    step (waiting 0) = .next { State.reset with responses := [⟨.illegalOp, 0, 0⟩] } ∧
    step (waiting (encode (.nseed 1)))
      = .next { State.reset with responses := [⟨.unbound, 0, 0⟩] } := ⟨rfl, rfl⟩
theorem witness_EveryCommandGetsOneResponse :
    (waiting (encode .rreset)).pending = .command (encode .rreset) :: [] := rfl
theorem witness_RunOfCommandsCompletesInOneStepEach :
    ({ State.reset with pending := [.command 0, .command 1, .reset] } : State).pending
      = [(0 : CommandRecord), 1].map Input.command ++ [.reset] := rfl
theorem witness_ResetEventLeavesTheResetState :
    ({ State.reset with pending := [.reset] } : State).pending = .reset :: [] ∧
    ({ State.reset with pending := [.resetDuring 7] } : State).pending
      = .resetDuring 7 :: [] := ⟨rfl, rfl⟩
theorem witness_IdleStepChangesNothing : State.reset.pending = [] := rfl
/-- The two clauses meet at `a = m - 1` and `a = m`. -/
theorem witness_WmoddivDividesInContract : (6 : Word) < 7 := by decide
theorem witness_RestoringDividerRefinesDivision : (0xFFFFFFFE#32 : Word) < 0xFFFFFFFF#32 := by
  decide
theorem witness_WmoddivOutsideContractCompletes : (7 : Word) ≤ 7 ∧ (0 : Word) ≤ 0 := by decide
/-- The boundary of the pass-through: 1 passes, 2 divides. -/
theorem witness_DivuDividesOrPassesThrough :
    divScalar ⟨0, 9⟩ 1 = ⟨0, 9⟩ ∧ divScalar ⟨0, 9⟩ 2 = ⟨0, 4⟩ ∧ 1 < (2 : Word).toNat := by
  decide
theorem witness_MultiplyingAQuotientBack :
    1 < (2 : Word).toNat ∧ (Word64.mk 0 6).val % (2 : Word).toNat = 0 := by decide
/-- The clauses of `DIVS` meet at -1, -2, 0, 1 and 2. -/
theorem witness_DivsNegatesForNegativeDivisor :
    sint32 0xFFFFFFFF#32 = -1 ∧ sint32 0xFFFFFFFE#32 = -2 ∧ sint32 0x80000000#32 = -2 ^ 31 ∧
    divScalarSigned true ⟨0, 9⟩ 0xFFFFFFFF#32 = ⟨0xFFFFFFFF#32, 0xFFFFFFF7#32⟩ ∧
    divScalarSigned false ⟨0, 9⟩ 0xFFFFFFFF#32 = ⟨0, 9⟩ ∧
    divScalarSigned true ⟨0, 9⟩ 0xFFFFFFFE#32 = ⟨0xFFFFFFFF#32, 0xFFFFFFFC#32⟩ ∧
    divScalarSigned true ⟨0, 9⟩ 0 = ⟨0, 9⟩ ∧ divScalarSigned true ⟨0, 9⟩ 1 = ⟨0, 9⟩ ∧
    divScalarSigned true ⟨0, 9⟩ 2 = ⟨0, 4⟩ := by decide
/-- `SHL`, `SHR`, `ROTL`, `ROTR`: the last specified amount. -/
theorem witness_ShlMultipliesByPowerOfTwo : (63 : Word).toNat < 64 := by decide
theorem witness_ShrDividesByPowerOfTwo : (63 : Word).toNat < 64 := by decide
theorem witness_RotlMovesEveryBitUp : (63 : Word).toNat < 64 ∧ (63 : Nat) < 64 := by decide
theorem witness_RotrMovesEveryBitDown : (63 : Word).toNat < 64 ∧ (63 : Nat) < 64 := by decide
/-- The first unspecified amount. -/
theorem witness_LargeShiftAmountsComplete : 64 ≤ (64 : Word).toNat := by decide
theorem witness_ComparisonLaws :
    ¬ (signBit (Word64.mk 0x80000000#32 0).hi = signBit (Word64.mk 0 1).hi
      ∨ Word64.mk 0x80000000#32 0 = Word64.mk 0 1) := by decide
theorem witness_AdvanceIsXorshiftMultiply :
    (0x38ECAD98D647EBD8 : Nat) = (Word64.mk 0x38ECAC5F#32 0xB3251641#32).val ^^^
      ((Word64.mk 0x38ECAC5F#32 0xB3251641#32).val / 2 ^ 21) ∧
    (0x8AD3F358D647EBD8 : Nat)
      = 0x38ECAD98D647EBD8 ^^^ (0x38ECAD98D647EBD8 * 2 ^ 35 % 2 ^ 64) ∧
    (0x827ECC6D5B239565 : Nat) = 0x8AD3F358D647EBD8 ^^^ (0x8AD3F358D647EBD8 / 2 ^ 4) := by
  decide
theorem witness_AdvanceIsBijectiveFixingZero :
    Config.defaultParams.ranq1Mult.lo.getLsbD 0 = true := by decide
theorem witness_ZeroGeneratorStateIsAbsorbing :
    (boundWith (Vector.replicate 16 0) ⟨0, 0⟩).rqV = ⟨0, 0⟩ ∧
    (boundWith (Vector.replicate 16 0) ⟨0, 0⟩).nrBound = true ∧ (3 : Word) ≠ 0 ∧
    counterAt (Vector.replicate 16 0) (mostOverdue (Vector.replicate 16 0) (offeredSlots 3)) + 1
      < 2 := by decide
theorem witness_NbindBinds :
    exec .rreset { State.reset with nrBound := true }
      = .next { State.reset with
          nrBound := true, rqV := State.reset.params.ranq1Const
          responses := [⟨.ok, 0, 0⟩] } := rfl
theorem witness_NseedZeroesCountersAndReseeds :
    (boundWith (Vector.replicate 16 1) ⟨1, 1⟩).nrBound = true ∧ State.reset.nrBound = false :=
  ⟨rfl, rfl⟩
theorem witness_UnboundSelectorAnswersUnbound : State.reset.nrBound = false := rfl
/-- The clauses of `NSELECT`: 0, 1, the last unclamped and the first clamped count, and the two
branches at their boundary. -/
theorem witness_NselectFollowsTheSevenSteps :
    offeredSlots 1 = 1 ∧ offeredSlots 15 = 15 ∧ offeredSlots 16 = 15 ∧ (0 : Word) = 0 ∧
    (1 : Word) ≠ 0 ∧ State.reset.nrBound = false ∧
    (boundWith (Vector.replicate 16 0) ⟨0, 6⟩).nrBound = true ∧ (selectWith (next32 Config.defaultParams) 3 1 (Vector.replicate 16 0)
      ⟨0, 6⟩).gen = ⟨0, 6⟩ ∧
    (selectWith (next32 Config.defaultParams) 3 2 (Vector.replicate 16 0)
      ⟨0, 6⟩).gen = ⟨0xB253C82E#32, 0xDC8D2EAE#32⟩ := by decide
theorem witness_NselectAnswersAnOfferedSlot :
    (boundWith (Vector.replicate 16 0) ⟨0, 6⟩).nrBound = true ∧ (16 : Word) ≠ 0 := by decide
theorem witness_NselectKeepsTheStreakBound :
    1 ≤ (3 : Word).toNat ∧ (3 : Word).toNat ≤ 15 ∧ 1 ≤ (0xFFFFFFFD#32 : Word).toNat ∧
    (0xFFFFFFFD#32 : Word).toNat + (3 : Word).toNat ≤ 2 ^ 32 ∧
    Safety.streakBound 3 2 #v[0, 2, 1, 0, 0, 0, 0, 0, 0, 0, 0, 0, 0, 0, 0, 0] ∧
    (boundWith #v[0, 2, 1, 0, 0, 0, 0, 0, 0, 0, 0, 0, 0, 0, 0, 0] ⟨0, 6⟩).nrBound = true ∧
    statsAfter (.nselect 3 2)
      (boundWith #v[0, 2, 1, 0, 0, 0, 0, 0, 0, 0, 0, 0, 0, 0, 0, 0] ⟨0, 6⟩)
      = some #v[1, 0, 2, 0, 0, 0, 0, 0, 0, 0, 0, 0, 0, 0, 0, 0] := by decide
theorem witness_StreakBoundStartsAndBounds :
    Safety.streakBound 3 2 #v[0, 3, 1, 0, 0, 0, 0, 0, 0, 0, 0, 0, 0, 0, 0, 0] ∧
    ¬ Safety.streakBound 3 2 #v[3, 3, 1, 0, 0, 0, 0, 0, 0, 0, 0, 0, 0, 0, 0, 0] ∧
    (1 : Nat) < 3 := by decide
theorem witness_DocumentFairnessClaimFails :
    (boundWith (Vector.replicate 16 0) ⟨0, 6⟩).nrBound = true ∧
    (boundWith (Vector.replicate 16 0) ⟨0, 6⟩).nrStats = Vector.replicate 16 0 := ⟨rfl, rfl⟩
theorem witness_OnlyTheNamedCommandsWriteState :
    exec .nbind State.reset
      = .next { State.reset with nrBound := true, responses := [⟨.ok, 0, 0⟩] } := rfl
theorem witness_EveryStepKeepsTheInvariant :
    Safety.invariantHolds (waiting (encode .nbind)) ∧
    step (waiting (encode .nbind))
      = .next { State.reset with nrBound := true, responses := [⟨.ok, 0, 0⟩] } :=
  ⟨by decide, rfl⟩
theorem witness_InContractCommandsAreSpecified :
    Safety.inContract (.wmoddiv 6 0 7) State.reset = true ∧
    Safety.inContract (.wmoddiv 7 0 7) State.reset = false ∧
    Safety.inContract (.shl ⟨0, 1⟩ 63) State.reset = true ∧
    Safety.inContract (.shl ⟨0, 1⟩ 64) State.reset = false ∧
    Safety.inContract (.nselect 3 2) (boundWith (Vector.replicate 16 0) ⟨0, 6⟩) = true := by
  decide

end Sys2Proof.Tests
end

/-!
SUPPORT. The three pseudo-commands of R64: the two forms R63 gives a Word64 operand fill the same
ports, and the comparison of a Word64 with zero is its sign test.
-/

namespace Sys2Proof.Word64

theorem val_lt (a : Word64) : a.val < 2 ^ 64 := by
  have hhi := a.hi.isLt
  have hlo := a.lo.isLt
  unfold val
  omega

/-- `W64(val(a)) = a`: a Word64 is read back from its unsigned value (R18). -/
theorem ofNat_val (a : Word64) : ofNat a.val = a := by
  have hlo := a.lo.isLt
  have hdiv : a.val / 2 ^ 32 = a.hi.toNat := by unfold val; omega
  have hmod : a.val % 2 ^ 32 = a.lo.toNat := by unfold val; omega
  have hl : BitVec.ofNat 32 a.val = a.lo :=
    BitVec.eq_of_toNat_eq (by rw [BitVec.toNat_ofNat, hmod])
  rw [ofNat, hdiv, hl, BitVec.ofNat_toNat, BitVec.setWidth_eq]

end Sys2Proof.Word64

namespace Sys2Proof.Machine

/-- A Word64 operand written as its two port literals fills the two ports with them (R63). -/
theorem assemblePorts_word64_of_words (h l : Word) :
    assemblePorts [.word64] [.word h.toNat, .word l.toNat] = some [h, l] := by
  simp [assemblePorts, h.isLt, l.isLt]

/-- A Word64 operand written as one 64-bit literal fills the same two ports (R63). -/
theorem assemblePorts_word64_of_dword (a : Word64) :
    assemblePorts [.word64] [.dword a.val] = some [a.hi, a.lo] := by
  have hports : assemblePorts [.word64] [.dword a.val]
      = some [(Word64.ofNat a.val).hi, (Word64.ofNat a.val).lo] := if_pos a.val_lt
  rw [hports, Word64.ofNat_val]

/-- A `CMPZ` line is the record of `SIGN` on the Word64 its literals stand for (R64). -/
theorem assemble_cmpz {ls : List Literal} {a : Word64}
    (hports : assemblePorts [.word64] ls = some [a.hi, a.lo]) :
    assemble .cmpz ls = some (encode (.sign a)) := by
  simp [assemble, mnemonicOperands, mnemonicOp, encode, hports]

theorem signBit_zero : signBit 0#32 = false := rfl

/-- No word is below zero and every nonzero word is above it, so the unsigned verdict against zero
only asks whether a word is nonzero (R144). -/
theorem compareUnsigned_zero (a : Word64) :
    compareUnsigned a ⟨0, 0⟩ =
      if a.hi ≠ 0 ∨ a.lo ≠ 0 then verdictGreater else verdictEqual := by
  unfold compareUnsigned
  by_cases hhi : a.hi = 0#32
  · simp [hhi, BitVec.pos_iff_ne_zero]
  · simp [hhi, BitVec.pos_iff_ne_zero]

/-- The sign test is the signed comparison with zero: the sign bit of zero is clear, so a set sign
bit decides both, and otherwise the unsigned order of the patterns does (R140, R142). -/
theorem compareSigned_zero (a : Word64) : compareSigned a ⟨0, 0⟩ = signVerdict a := by
  unfold compareSigned signVerdict
  cases hsign : signBit a.hi with
  | true => simp [signBit_zero]
  | false => simpa [signBit_zero] using compareUnsigned_zero a

theorem exec_sign (a : Word64) (s : State) :
    exec (.sign a) s = .next (answer32 (signVerdict a) s) := rfl

theorem exec_cmps (a b : Word64) (s : State) :
    exec (.cmps a b) s = .next (answer32 (compareSigned a b) s) := rfl

/-- `SIGN A` behaves as `CMPS A, 0` (R64). -/
theorem exec_sign_eq_exec_cmps_zero (a : Word64) (s : State) :
    exec (.sign a) s = exec (.cmps a ⟨0, 0⟩) s := by
  rw [exec_sign, exec_cmps, compareSigned_zero]

theorem assemble_rcons_nil : assemble .rcons [] = some (encode (.rcons 0)) := rfl

theorem assemble_radvance_nil : assemble .radvance [] = some (encode .rnext64) := rfl

/-- Settles O5: the two lines without operand by running the assembler, `CMPZ` through the ports
each literal form fills, and its meaning through the comparison with zero. -/
theorem pseudoCommandsExpand : Obligations.PseudoCommandsExpand :=
  ⟨assemble_rcons_nil, assemble_radvance_nil,
    fun h l => assemble_cmpz (assemblePorts_word64_of_words h l),
    fun a => assemble_cmpz (assemblePorts_word64_of_dword a),
    exec_sign_eq_exec_cmps_zero⟩

end Sys2Proof.Machine

/-!
SUPPORT. The two WideOps primitives against the integers: the pair `wideMulAdd` answers read back as
one 64-bit number, and the pair `wideModDiv` answers inside its contract as quotient and remainder.
-/

namespace Sys2Proof.Machine

/-- `a * b + c` of three words fits in two words, with nothing to spare at the largest inputs (R82). -/
theorem mul_add_lt_two_pow_64 (a b c : Word) : a.toNat * b.toNat + c.toNat < 2 ^ 64 := by
  have hmul : a.toNat * b.toNat ≤ (2 ^ 32 - 1) * (2 ^ 32 - 1) :=
    Nat.mul_le_mul (Nat.le_sub_one_of_lt a.isLt) (Nat.le_sub_one_of_lt b.isLt)
  have hc := c.isLt
  omega

/-- `q * 2^32 + r = a * b + c`: no bit is lost (R80). -/
theorem wideMulAdd_toNat (a b c : Word) :
    (wideMulAdd a b c).1.toNat * 2 ^ 32 + (wideMulAdd a b c).2.toNat
      = a.toNat * b.toNat + c.toNat := by
  have hlt := mul_add_lt_two_pow_64 a b c
  simp only [wideMulAdd, BitVec.toNat_ofNat]
  omega

/-- Below `m * 2^32` the quotient by `m` fits in one word: what the contract `a < m` buys (R86). -/
theorem dividend_lt_of_lt {a m : Word} (c : Word) (h : a < m) :
    a.toNat * 2 ^ 32 + c.toNat < m.toNat * 2 ^ 32 := by
  have ham : a.toNat < m.toNat := h
  have hc := c.isLt
  omega

/-- The quotient word is the integer quotient (R87). -/
theorem wideModDiv_fst_toNat {a m : Word} (c : Word) (h : a < m) :
    (wideModDiv a c m).1.toNat = (a.toNat * 2 ^ 32 + c.toNat) / m.toNat := by
  rw [wideModDiv, BitVec.toNat_ofNat]
  exact Nat.mod_eq_of_lt (Nat.div_lt_of_lt_mul (dividend_lt_of_lt c h))

/-- The remainder word is the integer remainder (R87). -/
theorem wideModDiv_snd_toNat {a m : Word} (c : Word) (h : a < m) :
    (wideModDiv a c m).2.toNat = (a.toNat * 2 ^ 32 + c.toNat) % m.toNat := by
  have hmod := Nat.mod_lt (a.toNat * 2 ^ 32 + c.toNat) (Nat.zero_lt_of_lt h)
  rw [wideModDiv, BitVec.toNat_ofNat]
  exact Nat.mod_eq_of_lt (hmod.trans m.isLt)

/-- The record of `WMULADD` reads ports 0 to 2 (R54, R57). -/
theorem decode_packRecord_wmuladd (a b c p3 : Word) :
    decode (packRecord 0x10#8 a b c p3) = .command (.wmuladd a b c) := by
  simp only [decode, Laws.opField_packRecord, Laws.port0_packRecord, Laws.port1_packRecord,
    Laws.port2_packRecord]

/-- The record of `WMODDIV` reads ports 0 to 2 (R54, R57). -/
theorem decode_packRecord_wmoddiv (a c m p3 : Word) :
    decode (packRecord 0x11#8 a c m p3) = .command (.wmoddiv a c m) := by
  simp only [decode, Laws.opField_packRecord, Laws.port0_packRecord, Laws.port1_packRecord,
    Laws.port2_packRecord]

theorem exec_wmuladd (a b c : Word) (s : State) :
    exec (.wmuladd a b c) s = .next (answerPair (wideMulAdd a b c) s) := rfl

theorem exec_wmoddiv_of_lt {a m : Word} (c : Word) (s : State) (h : a < m) :
    exec (.wmoddiv a c m) s = .next (answerPair (wideModDiv a c m) s) := if_pos h

theorem exec_wmoddiv_of_le {a m : Word} (c : Word) (s : State) (h : m ≤ a) :
    exec (.wmoddiv a c m) s = .next (answerFree s) := if_neg (BitVec.not_lt.mpr h)

/-- Settles O14: the answer is `wideMulAdd`, whose two words hold all of `a * b + c`. -/
theorem wmuladdIsExact : Obligations.WmuladdIsExact := fun a b c p3 s =>
  ⟨decode_packRecord_wmuladd a b c p3, _, _, exec_wmuladd a b c s, wideMulAdd_toNat a b c⟩

/-- Settles O16: the answer is `wideModDiv`, which inside the contract is quotient and remainder;
that pair is the only one by the uniqueness of Euclidean division. -/
theorem wmoddivDividesInContract : Obligations.WmoddivDividesInContract := by
  intro a c m p3 s
  refine ⟨decode_packRecord_wmoddiv a c m p3, fun h => ⟨_, _, exec_wmoddiv_of_lt c s h, ?_⟩⟩
  have hm : 0 < m.toNat := Nat.zero_lt_of_lt h
  rw [wideModDiv_fst_toNat c h, wideModDiv_snd_toNat c h]
  refine ⟨(Nat.div_add_mod' _ _).symm, Nat.mod_lt _ hm, fun q' r' heq hr => ?_⟩
  have hform : r' + m.toNat * q' = a.toNat * 2 ^ 32 + c.toNat := by
    rw [heq, Nat.mul_comm, Nat.add_comm]
  obtain ⟨hq', hr'⟩ := (Nat.div_mod_unique hm).mpr ⟨hform, hr⟩
  exact ⟨hq'.symm, hr'.symm⟩

/-- Settles O18: outside the contract the answer is two free values, and `answerFree` writes nothing
but the response and the count of free values. -/
theorem wmoddivOutsideContractCompletes : Obligations.WmoddivOutsideContractCompletes :=
  fun _ c _ s h => ⟨_, _, exec_wmoddiv_of_le c s h⟩

end Sys2Proof.Machine

/-!
SUPPORT. Word64 as the integers modulo 2^64: a Word64 is its value, and `W64` forgets multiples of
2^64 (R18). Every law of Word64 arithmetic below is a statement about `val` and these.
-/

namespace Sys2Proof.Word64

/-- `val(W64(x)) = x mod 2^64` (R18). -/
theorem val_ofNat (x : Nat) : (ofNat x).val = x % 2 ^ 64 := by
  simp only [val, ofNat, BitVec.toNat_ofNat]
  omega

/-- Two Word64 of the same unsigned value are the same pair of words. -/
theorem eq_of_val_eq {a b : Word64} (h : a.val = b.val) : a = b := by
  rw [← ofNat_val a, h, ofNat_val]

/-- What to show of a word-wise result that is to be `W64(x)`. -/
theorem eq_ofNat_of_val {a : Word64} {x : Nat} (h : a.val = x % 2 ^ 64) : a = ofNat x :=
  eq_of_val_eq (h.trans (val_ofNat x).symm)

/-- `val(W64(x)) = x mod 2^64`, of an integer (R18). -/
theorem val_ofInt (x : Int) : ((ofInt x).val : Int) = x % 2 ^ 64 := by
  rw [ofInt, val_ofNat]
  omega

theorem eq_ofInt_of_val {a : Word64} {x : Int} (h : (a.val : Int) = x % 2 ^ 64) : a = ofInt x :=
  eq_of_val_eq (Int.ofNat_inj.mp (h.trans (val_ofInt x).symm))

/-- `W64` only sees the residue modulo 2^64. -/
theorem ofInt_congr {x y : Int} (h : x ≡ y [ZMOD 2 ^ 64]) : ofInt x = ofInt y := by
  rw [ofInt, h, ofInt]

/-- On a natural number the two forms of `W64` agree. -/
theorem ofInt_natCast (x : Nat) : ofInt (x : Int) = ofNat x :=
  eq_ofNat_of_val (by have h := val_ofInt x; omega)

end Sys2Proof.Word64

namespace Sys2Proof.Machine

/-! ### The operand readings -/

/-- The sign bit splits the words in half (R17, R47). -/
theorem signBit_iff (x : Word) : signBit x = true ↔ 2 ^ 31 ≤ x.toNat := by
  rw [signBit, ← BitVec.msb_eq_getLsbD_last x, BitVec.msb_eq_decide, decide_eq_true_iff]

/-- The magnitude of a negative word fits in a word, that of `0x80000000` too (R109). -/
theorem magnitude_toNat {v : Word} (h : signBit v = true) :
    (magnitude v).toNat = 2 ^ 32 - v.toNat := by
  have hv := (signBit_iff v).mp h
  rw [magnitude, BitVec.toNat_ofNat]
  omega

/-- A negative word reads as minus its magnitude (R17, R109). -/
theorem sint32_of_signBit {v : Word} (h : signBit v = true) :
    sint32 v = -((magnitude v).toNat : Int) := by
  have hv := v.isLt
  rw [magnitude_toNat h, sint32, if_pos h]
  omega

theorem sint32_of_not_signBit {v : Word} (h : ¬ signBit v = true) : sint32 v = v.toNat := if_neg h

theorem magnitude_pos {v : Word} (h : signBit v = true) : 0 < (magnitude v).toNat := by
  have hv := v.isLt
  rw [magnitude_toNat h]
  omega

/-- `-1` is the one word that reads as -1 (R17). -/
theorem sint32_eq_neg_one_iff (v : Word) : sint32 v = -1 ↔ v = 0xFFFFFFFF#32 := by
  have hv := v.isLt
  rw [← BitVec.toNat_inj, BitVec.toNat_ofNat, sint32]
  split
  · omega
  next h =>
    rw [signBit_iff] at h
    omega

/-- The two readings of a Word64 differ by a multiple of 2^64 (R18). -/
theorem sval_modEq_val (a : Word64) : sval a ≡ a.val [ZMOD 2 ^ 64] := by
  rw [sval]
  split
  · exact Int.sub_emod_right _ _
  · rfl

/-! ### Addition, subtraction, negation -/

theorem carryOut_toNat (lo x : Word) :
    (carryOut lo x).toNat = if lo.toNat < x.toNat then 1 else 0 :=
  apply_ite BitVec.toNat (lo < x) 1 0

theorem borrowOut_toNat (x y : Word) :
    (borrowOut x y).toNat = if x.toNat < y.toNat then 1 else 0 :=
  apply_ite BitVec.toNat (x < y) 1 0

theorem incrementCarry_toNat (l : Word) :
    (incrementCarry l).toNat = if l.toNat = 0 then 1 else 0 := by
  rw [incrementCarry, apply_ite BitVec.toNat]
  exact if_congr BitVec.toNat_inj.symm rfl rfl

/-- The comparison detects the bit the sum of two words loses (R83, R100). -/
theorem add_toNat_carryOut (x y : Word) :
    (x + y).toNat + (carryOut (x + y) x).toNat * 2 ^ 32 = x.toNat + y.toNat := by
  have hx := x.isLt
  have hy := y.isLt
  rw [carryOut_toNat, BitVec.toNat_add]
  split <;> omega

/-- The comparison detects the bit the difference of two words borrows (R102). -/
theorem sub_toNat_borrowOut (x y : Word) :
    (x - y).toNat + y.toNat = x.toNat + (borrowOut x y).toNat * 2 ^ 32 := by
  have hx := x.isLt
  have hy := y.isLt
  rw [borrowOut_toNat, BitVec.toNat_sub]
  split <;> omega

/-- Inverting a word and adding 1 subtracts it from 2^32, the carry being the bit of 2^32 itself,
which is left only where the sum wraps to zero (R104). -/
theorem not_add_one_toNat_incrementCarry (x : Word) :
    (~~~x + 1).toNat + (incrementCarry (~~~x + 1)).toNat * 2 ^ 32 = 2 ^ 32 - x.toNat := by
  have hx := x.isLt
  have hneg : ~~~x + 1 = -x := (BitVec.neg_eq_not_add x).symm
  rw [incrementCarry_toNat, hneg, BitVec.toNat_neg]
  split <;> omega

/-- What the low words lose the high word takes; what the two high additions lose is worth a
multiple of 2^64 (R100). -/
theorem add64_eq_ofNat (a b : Word64) : add64 a b = Word64.ofNat (a.val + b.val) := by
  apply Word64.eq_ofNat_of_val
  have hlo := add_toNat_carryOut a.lo b.lo
  have hhi := add_toNat_carryOut a.hi b.hi
  have hcarry := add_toNat_carryOut (a.hi + b.hi) (carryOut (a.lo + b.lo) a.lo)
  have hlt := (add64 a b).val_lt
  simp only [Word64.val, add64] at hlt ⊢
  omega

/-- What the low words borrow the high word gives; what the two high subtractions borrow is worth a
multiple of 2^64 (R102). -/
theorem exists_val_sub64_add (a b : Word64) :
    ∃ k : Nat, (sub64 a b).val + b.val = a.val + k * 2 ^ 64 := by
  have hlo := sub_toNat_borrowOut a.lo b.lo
  have hhi := sub_toNat_borrowOut a.hi b.hi
  have hborrow := sub_toNat_borrowOut (a.hi - b.hi) (borrowOut a.lo b.lo)
  refine ⟨(borrowOut a.hi b.hi).toNat
    + (borrowOut (a.hi - b.hi) (borrowOut a.lo b.lo)).toNat, ?_⟩
  simp only [Word64.val, sub64]
  omega

theorem sub64_eq_ofInt (a b : Word64) : sub64 a b = Word64.ofInt (a.val - b.val) := by
  apply Word64.eq_ofInt_of_val
  obtain ⟨k, hk⟩ := exists_val_sub64_add a b
  have hlt := (sub64 a b).val_lt
  omega

/-- The inverted high word is `2^32 - 1 - hi`, and the carry of the low one makes up the missing 1
where `lo` is zero (R104, R105). -/
theorem negate_eq_ofNat (a : Word64) : negate a = Word64.ofNat (2 ^ 64 - a.val) := by
  apply Word64.eq_ofNat_of_val
  have hlo := not_add_one_toNat_incrementCarry a.lo
  have hhi : (~~~a.hi).toNat = 2 ^ 32 - 1 - a.hi.toNat := BitVec.toNat_not
  have hcarry := add_toNat_carryOut (~~~a.hi) (incrementCarry (~~~a.lo + 1))
  have hahi := a.hi.isLt
  have hlt := (negate a).val_lt
  simp only [Word64.val, negate] at hlt ⊢
  omega

theorem val_add64 (a b : Word64) : (add64 a b).val = (a.val + b.val) % 2 ^ 64 := by
  rw [add64_eq_ofNat, Word64.val_ofNat]

theorem val_sub64 (a b : Word64) : ((sub64 a b).val : Int) = ((a.val : Int) - b.val) % 2 ^ 64 := by
  rw [sub64_eq_ofInt, Word64.val_ofInt]

theorem val_negate (a : Word64) : (negate a).val = (2 ^ 64 - a.val) % 2 ^ 64 := by
  rw [negate_eq_ofNat, Word64.val_ofNat]

theorem sub64_add64 (a b : Word64) : sub64 (add64 a b) b = a := by
  have ha := a.val_lt
  have hadd := val_add64 a b
  have hsub := val_sub64 (add64 a b) b
  exact Word64.eq_of_val_eq (by omega)

theorem add64_sub64 (a b : Word64) : add64 (sub64 a b) b = a := by
  have ha := a.val_lt
  have hsub := val_sub64 a b
  have hadd := val_add64 (sub64 a b) b
  exact Word64.eq_of_val_eq (by omega)

theorem sub64_self (a : Word64) : sub64 a a = ⟨0, 0⟩ := by
  rw [sub64_eq_ofInt, Int.sub_self]
  rfl

theorem negate_negate (a : Word64) : negate (negate a) = a := by
  have ha := a.val_lt
  have hneg := val_negate a
  have hnegneg := val_negate (negate a)
  exact Word64.eq_of_val_eq (by omega)

/-- Negating `W64(x)` gives `W64(-x)` (R105). -/
theorem negate_ofNat (x : Nat) : negate (Word64.ofNat x) = Word64.ofInt (-(x : Int)) := by
  apply Word64.eq_ofInt_of_val
  rw [val_negate, Word64.val_ofNat]
  omega

/-! ### Products -/

/-- The two `wideMulAdd`s are exact, so only the high word of the second, worth a multiple of 2^64,
is lost (R106). -/
theorem mulScalar_eq_ofNat (a : Word64) (v : Word) :
    mulScalar a v = Word64.ofNat (a.val * v.toNat) := by
  have hlow := wideMulAdd_toNat a.lo v 0
  have hhigh := wideMulAdd_toNat a.hi v (wideMulAdd a.lo v 0).1
  have hmul : a.val * v.toNat = a.hi.toNat * v.toNat * 2 ^ 32 + a.lo.toNat * v.toNat := by
    rw [Word64.val]; ring
  have hval : (mulScalar a v).val = (wideMulAdd a.hi v (wideMulAdd a.lo v 0).1).2.toNat * 2 ^ 32
      + (wideMulAdd a.lo v 0).2.toNat := rfl
  have hlt := (mulScalar a v).val_lt
  have hzero : (0 : Word).toNat = 0 := rfl
  apply Word64.eq_ofNat_of_val
  omega

/-- The three `wideMulAdd`s are exact; the high words of the two cross terms and the whole `hi*hi`
term are worth multiples of 2^64 (R110). -/
theorem mulWord64_eq_ofNat (a b : Word64) : mulWord64 a b = Word64.ofNat (a.val * b.val) := by
  have hlow := wideMulAdd_toNat a.lo b.lo 0
  have hcross := wideMulAdd_toNat a.hi b.lo (wideMulAdd a.lo b.lo 0).1
  have hhigh := wideMulAdd_toNat a.lo b.hi
    (wideMulAdd a.hi b.lo (wideMulAdd a.lo b.lo 0).1).2
  have hmul : a.val * b.val = a.hi.toNat * b.hi.toNat * 2 ^ 64
      + (a.hi.toNat * b.lo.toNat + a.lo.toNat * b.hi.toNat) * 2 ^ 32
      + a.lo.toNat * b.lo.toNat := by
    simp only [Word64.val]; ring
  have hval : (mulWord64 a b).val
      = (wideMulAdd a.lo b.hi (wideMulAdd a.hi b.lo (wideMulAdd a.lo b.lo 0).1).2).2.toNat * 2 ^ 32
        + (wideMulAdd a.lo b.lo 0).2.toNat := rfl
  have hlt := (mulWord64 a b).val_lt
  have hzero : (0 : Word).toNat = 0 := rfl
  apply Word64.eq_ofNat_of_val
  omega

/-- For a negative scalar the negated product by `|v|` is the product by `-|v|` (R108). -/
theorem mulScalarSigned_eq_ofInt (a : Word64) (v : Word) :
    mulScalarSigned a v = Word64.ofInt (a.val * sint32 v) := by
  rw [mulScalarSigned]
  split_ifs with h
  · rw [mulScalar_eq_ofNat, negate_ofNat, sint32_of_signBit h, Nat.cast_mul, Int.mul_neg]
  · rw [mulScalar_eq_ofNat, sint32_of_not_signBit h, ← Nat.cast_mul, Word64.ofInt_natCast]

/-! ### Quotients -/

theorem divScalar_of_le_one {v : Word} (a : Word64) (h : v.toNat ≤ 1) : divScalar a v = a :=
  if_pos h

theorem divScalar_of_one_lt {v : Word} (a : Word64) (h : 1 < v.toNat) :
    divScalar a v = ⟨a.hi / v, (wideModDiv (a.hi % v) a.lo v).1⟩ := if_neg h.not_ge

/-- Dividing the high word and then the remainder-extended low word is dividing the whole value
(R112, R113). -/
theorem val_div_eq (a : Word64) {d : Nat} (hd : 0 < d) :
    a.val / d = a.hi.toNat / d * 2 ^ 32 + (a.hi.toNat % d * 2 ^ 32 + a.lo.toNat) / d := by
  have hval : a.val
      = a.hi.toNat % d * 2 ^ 32 + a.lo.toNat + d * (a.hi.toNat / d * 2 ^ 32) := by
    conv_lhs => rw [Word64.val, ← Nat.mod_add_div a.hi.toNat d]
    ring
  rw [hval, Nat.add_mul_div_left _ _ hd, Nat.add_comm]

/-- The quotient is the integer quotient, with nothing to truncate (R112). -/
theorem val_divScalar {v : Word} (a : Word64) (h : 0 < v.toNat) :
    (divScalar a v).val = a.val / v.toNat := by
  by_cases hone : v.toNat ≤ 1
  · rw [divScalar_of_le_one a hone, show v.toNat = 1 by omega, Nat.div_one]
  · have hrem : a.hi % v < v := by
      rw [BitVec.lt_def, BitVec.toNat_umod]
      exact Nat.mod_lt _ h
    rw [divScalar_of_one_lt a (by omega), val_div_eq a h, Word64.val, wideModDiv_fst_toNat _ hrem,
      BitVec.toNat_udiv, BitVec.toNat_umod]

theorem divScalar_eq_ofNat {v : Word} (a : Word64) (h : 0 < v.toNat) :
    divScalar a v = Word64.ofNat (a.val / v.toNat) := by
  rw [← val_divScalar a h, Word64.ofNat_val]

/-- By -1 with the parameter off, the dividend passes through (R118). -/
theorem divScalarSigned_neg_one_keep (a : Word64) :
    divScalarSigned false a 0xFFFFFFFF#32 = a := rfl

/-- By every other negative divisor, and by -1 with the parameter on, the answer is the negated
quotient by `|v|` (R116, R118). -/
theorem divScalarSigned_of_signBit {v : Word} {neg1Negates : Bool} (a : Word64)
    (h : signBit v = true) (hneg1 : ¬ (v = 0xFFFFFFFF#32 ∧ neg1Negates = false)) :
    divScalarSigned neg1Negates a v
      = Word64.ofInt (-((a.val / (sint32 v).natAbs : Nat) : Int)) := by
  have habs : (sint32 v).natAbs = (magnitude v).toNat := by
    rw [sint32_of_signBit h, Int.natAbs_neg, Int.natAbs_natCast]
  rw [divScalarSigned, if_pos h, if_neg hneg1, divScalar_eq_ofNat a (magnitude_pos h),
    negate_ofNat, habs]

theorem divScalarSigned_of_not_signBit {v : Word} (neg1Negates : Bool) (a : Word64)
    (h : ¬ signBit v = true) : divScalarSigned neg1Negates a v = divScalar a v := if_neg h

/-- `DIVS` at every divisor (R116, R118). -/
theorem divScalarSigned_eq (neg1Negates : Bool) (a : Word64) (v : Word) :
    divScalarSigned neg1Negates a v =
      if sint32 v = -1 then
        (if neg1Negates = true then Word64.ofInt (-(a.val : Int)) else a)
      else if sint32 v < 0 then
        Word64.ofInt (-((a.val / (sint32 v).natAbs : Nat) : Int))
      else if v.toNat ≤ 1 then a
      else Word64.ofNat (a.val / v.toNat) := by
  by_cases hsign : signBit v = true
  · have hneg : sint32 v < 0 := by
      have hpos := magnitude_pos hsign
      rw [sint32_of_signBit hsign]
      omega
    split_ifs with hone hnegates
    · rw [divScalarSigned_of_signBit a hsign (by simp [hnegates]), hone, Int.natAbs_neg,
        Int.natAbs_one, Nat.div_one]
    · rw [(sint32_eq_neg_one_iff v).mp hone, Bool.eq_false_of_not_eq_true hnegates,
        divScalarSigned_neg_one_keep]
    · exact divScalarSigned_of_signBit a hsign
        fun hkeep => hone ((sint32_eq_neg_one_iff v).mpr hkeep.1)
  · have hnonneg : sint32 v = v.toNat := sint32_of_not_signBit hsign
    rw [divScalarSigned_of_not_signBit neg1Negates a hsign, if_neg (by omega), if_neg (by omega)]
    split_ifs with hle
    · exact divScalar_of_le_one a hle
    · exact divScalar_eq_ofNat a (by omega)

/-! ### The commands: their records and their meanings -/

section

variable (a b : Word64) (v p0 p1 p2 p3 : Word) (s : State)

theorem decode_packRecord_add :
    decode (packRecord 0x20#8 p0 p1 p2 p3) = .command (.add ⟨p0, p1⟩ ⟨p2, p3⟩) := by
  simp only [decode, Laws.opField_packRecord, Laws.operandA_packRecord, Laws.operandB_packRecord]

theorem decode_packRecord_sub :
    decode (packRecord 0x21#8 p0 p1 p2 p3) = .command (.sub ⟨p0, p1⟩ ⟨p2, p3⟩) := by
  simp only [decode, Laws.opField_packRecord, Laws.operandA_packRecord, Laws.operandB_packRecord]

theorem decode_packRecord_mulu :
    decode (packRecord 0x22#8 p0 p1 v p3) = .command (.mulu ⟨p0, p1⟩ v) := by
  simp only [decode, Laws.opField_packRecord, Laws.operandA_packRecord, Laws.port2_packRecord]

theorem decode_packRecord_muls :
    decode (packRecord 0x23#8 p0 p1 v p3) = .command (.muls ⟨p0, p1⟩ v) := by
  simp only [decode, Laws.opField_packRecord, Laws.operandA_packRecord, Laws.port2_packRecord]

theorem decode_packRecord_mul64 :
    decode (packRecord 0x24#8 p0 p1 p2 p3) = .command (.mul64 ⟨p0, p1⟩ ⟨p2, p3⟩) := by
  simp only [decode, Laws.opField_packRecord, Laws.operandA_packRecord, Laws.operandB_packRecord]

theorem decode_packRecord_divu :
    decode (packRecord 0x25#8 p0 p1 v p3) = .command (.divu ⟨p0, p1⟩ v) := by
  simp only [decode, Laws.opField_packRecord, Laws.operandA_packRecord, Laws.port2_packRecord]

theorem decode_packRecord_divs :
    decode (packRecord 0x26#8 p0 p1 v p3) = .command (.divs ⟨p0, p1⟩ v) := by
  simp only [decode, Laws.opField_packRecord, Laws.operandA_packRecord, Laws.port2_packRecord]

theorem decode_packRecord_neg :
    decode (packRecord 0x27#8 p0 p1 p2 p3) = .command (.neg ⟨p0, p1⟩) := by
  simp only [decode, Laws.opField_packRecord, Laws.operandA_packRecord]

theorem exec_add : exec (.add a b) s = .next (answer64 (add64 a b) s) := rfl

theorem exec_sub : exec (.sub a b) s = .next (answer64 (sub64 a b) s) := rfl

theorem exec_mulu : exec (.mulu a v) s = .next (answer64 (mulScalar a v) s) := rfl

theorem exec_muls : exec (.muls a v) s = .next (answer64 (mulScalarSigned a v) s) := rfl

theorem exec_mul64 : exec (.mul64 a b) s = .next (answer64 (mulWord64 a b) s) := rfl

theorem exec_divu : exec (.divu a v) s = .next (answer64 (divScalar a v) s) := rfl

theorem exec_divs :
    exec (.divs a v) s = .next (answer64 (divScalarSigned s.params.divsNeg1Negates a v) s) := rfl

theorem exec_neg : exec (.neg a) s = .next (answer64 (negate a) s) := rfl

end

/-! ### The statements -/

/-- Settles O19: the word-wise sum with its carry is `W64` of the sum. -/
theorem addWrapsModulo64Bits : Obligations.AddWrapsModulo64Bits := fun p0 p1 p2 p3 s =>
  ⟨decode_packRecord_add p0 p1 p2 p3, by rw [exec_add, add64_eq_ofNat, answer64_eq]⟩

/-- Settles O20: the word-wise difference with its borrow is `W64` of the difference. -/
theorem subWrapsModulo64Bits : Obligations.SubWrapsModulo64Bits := fun p0 p1 p2 p3 s =>
  ⟨decode_packRecord_sub p0 p1 p2 p3, by rw [exec_sub, sub64_eq_ofInt, answer64_eq]⟩

/-- Settles O21: sums and differences are taken modulo 2^64, where they undo each other. -/
theorem addAndSubAreInverse : Obligations.AddAndSubAreInverse :=
  ⟨fun a b s => ⟨exec_add a b s, exec_sub a b s⟩,
    fun a b => ⟨sub64_add64 a b, add64_sub64 a b, sub64_self a⟩, by decide, by decide⟩

/-- Settles O22: inverting both words and adding 1 is subtracting from 2^64. -/
theorem negIsTwosComplement : Obligations.NegIsTwosComplement :=
  ⟨fun p0 p1 p2 p3 s => ⟨decode_packRecord_neg p0 p1 p2 p3, by
      rw [exec_neg, negate_eq_ofNat, answer64_eq]⟩,
    fun a => ⟨negate_eq_ofNat a, negate_negate a⟩, by decide, by decide, by decide⟩

/-- Settles O23: the chained `wideMulAdd`s lose only multiples of 2^64. -/
theorem muluTruncatesTheProduct : Obligations.MuluTruncatesTheProduct := fun p0 p1 v p3 s =>
  ⟨decode_packRecord_mulu v p0 p1 p3, by rw [exec_mulu, mulScalar_eq_ofNat, answer64_eq]⟩

/-- Settles O24: negating the product by `|v|` is multiplying by `v`, and the two readings of `A`
agree modulo 2^64. -/
theorem mulsMultipliesBySignedScalar : Obligations.MulsMultipliesBySignedScalar :=
  fun p0 p1 v p3 s =>
    ⟨decode_packRecord_muls v p0 p1 p3,
      by rw [exec_muls, mulScalarSigned_eq_ofInt, answer64_eq],
      Word64.ofInt_congr ((sval_modEq_val ⟨p0, p1⟩).symm.mul_right _)⟩

/-- Settles O25: the discarded `hi*hi` term and high words are multiples of 2^64. -/
theorem mul64TruncatesTheProduct : Obligations.Mul64TruncatesTheProduct := fun p0 p1 p2 p3 s =>
  ⟨decode_packRecord_mul64 p0 p1 p2 p3, by rw [exec_mul64, mulWord64_eq_ofNat, answer64_eq]⟩

/-- Settles O26: up to 1 the dividend passes through; above, the two-step division is the division
of the whole value, whose quotient fits. -/
theorem divuDividesOrPassesThrough : Obligations.DivuDividesOrPassesThrough := by
  intro p0 p1 v p3 s
  refine ⟨decode_packRecord_divu v p0 p1 p3, ?_, fun hv => ?_⟩
  · rw [exec_divu, answer64_eq]
    split_ifs with hle
    · rw [divScalar_of_le_one _ hle]
    · rw [divScalar_eq_ofNat _ (by omega)]
  · have hpos : 0 < v.toNat := by omega
    rw [← divScalar_eq_ofNat _ hpos, val_divScalar _ hpos]

/-- Settles O28: the answer is `divScalarSigned`, known at every divisor by `divScalarSigned_eq`. -/
theorem divsNegatesForNegativeDivisor : Obligations.DivsNegatesForNegativeDivisor :=
  fun p0 p1 v p3 s =>
    ⟨decode_packRecord_divs v p0 p1 p3, _, exec_divs ⟨p0, p1⟩ v s, divScalarSigned_eq _ _ _⟩

end Sys2Proof.Machine

/-!
SUPPORT. The shifts and rotates of Word64 bit by bit: a Word64 is the 64 bits of its value (R17,
R18), `shl64` and `shr64` renumber them, and a rotate is two shifts whose bits do not meet.
Multiplying and dividing by a power of two are the same renumberings.
-/

namespace Sys2Proof.Word64

/-- Bit `i` of the value is a bit of the low word below 32 and of the high word from 32 on (R18). -/
theorem testBit_val (a : Word64) (i : Nat) :
    a.val.testBit i = if i < 32 then a.lo.getLsbD i else a.hi.getLsbD (i - 32) := by
  rw [val, Nat.mul_comm, Nat.testBit_two_pow_mul_add _ a.lo.isLt, BitVec.testBit_toNat,
    BitVec.testBit_toNat]

theorem testBit_val_of_ge (a : Word64) {i : Nat} (h : 64 ≤ i) : a.val.testBit i = false := by
  rw [testBit_val, if_neg (by omega), BitVec.getLsbD_of_ge _ _ (by omega)]

/-- `|` acts on each bit of the value (R17). -/
theorem testBit_val_or (a b : Word64) (i : Nat) :
    (a.or b).val.testBit i = (a.val.testBit i || b.val.testBit i) := by
  simp only [testBit_val, Word64.or, BitVec.getLsbD_or]
  split <;> rfl

theorem or_comm (a b : Word64) : a.or b = b.or a := by
  rw [Word64.or, Word64.or, BitVec.or_comm a.hi, BitVec.or_comm a.lo]

end Sys2Proof.Word64

namespace Sys2Proof.Machine

theorem shl64_zero (a : Word64) : shl64 a 0 = a := rfl

theorem shl64_of_ge (a : Word64) {n : Nat} (h : 32 ≤ n) : shl64 a n = ⟨a.lo <<< (n - 32), 0⟩ :=
  if_pos h

theorem shl64_of_lt (a : Word64) {n : Nat} (hpos : 0 < n) (h : n < 32) :
    shl64 a n = ⟨(a.hi <<< n) ||| (a.lo >>> (32 - n)), a.lo <<< n⟩ := by
  rw [shl64, if_neg h.not_ge, if_neg hpos.ne']

theorem shr64_zero (a : Word64) : shr64 a 0 = a := rfl

theorem shr64_of_ge (a : Word64) {n : Nat} (h : 32 ≤ n) : shr64 a n = ⟨0, a.hi >>> (n - 32)⟩ :=
  if_pos h

theorem shr64_of_lt (a : Word64) {n : Nat} (hpos : 0 < n) (h : n < 32) :
    shr64 a n = ⟨a.hi >>> n, (a.lo >>> n) ||| (a.hi <<< (32 - n))⟩ := by
  rw [shr64, if_neg h.not_ge, if_neg hpos.ne']

/-- Bit `i - n` goes to bit `i`, zeros enter below `n`, and bit 63 is the last: from 32 on the low
word moves into the high one, below 32 each word moves up and the low one spills over (R130). -/
theorem testBit_shl64 (a : Word64) (n i : Nat) :
    (shl64 a n).val.testBit i = (decide (n ≤ i ∧ i < 64) && a.val.testBit (i - n)) := by
  rcases le_or_gt 32 n with h | h
  · rw [shl64_of_ge a h]
    simp only [Word64.testBit_val, BitVec.getLsbD_shiftLeft]
    grind
  · rcases Nat.eq_zero_or_pos n with rfl | hpos
    · rw [shl64_zero]
      simp only [Word64.testBit_val]
      grind
    · rw [shl64_of_lt a hpos h]
      simp only [Word64.testBit_val, BitVec.getLsbD_or, BitVec.getLsbD_shiftLeft,
        BitVec.getLsbD_ushiftRight]
      grind

/-- Bit `i + n` goes to bit `i`, and zeros enter at bit 63: from 32 on the high word moves into the
low one, below 32 each word moves down and the high one spills over (R132). -/
theorem testBit_shr64 (a : Word64) (n i : Nat) :
    (shr64 a n).val.testBit i = a.val.testBit (i + n) := by
  rcases le_or_gt 32 n with h | h
  · rw [shr64_of_ge a h]
    simp only [Word64.testBit_val, BitVec.getLsbD_ushiftRight]
    grind
  · rcases Nat.eq_zero_or_pos n with rfl | hpos
    · rw [shr64_zero, Nat.add_zero]
    · rw [shr64_of_lt a hpos h]
      simp only [Word64.testBit_val, BitVec.getLsbD_or, BitVec.getLsbD_shiftLeft,
        BitVec.getLsbD_ushiftRight]
      grind

/-- `shl(A, n) = W64(val(A) * 2^n)` (R130). -/
theorem shl64_eq_ofNat (a : Word64) (n : Nat) :
    shl64 a n = Word64.ofNat (a.val * 2 ^ n) := by
  apply Word64.eq_ofNat_of_val
  apply Nat.eq_of_testBit_eq
  intro i
  rw [testBit_shl64, Nat.testBit_mod_two_pow, Nat.testBit_mul_two_pow, Bool.decide_and,
    Bool.and_comm (decide (n ≤ i)), Bool.and_assoc]

/-- `shr(A, n) = W64(val(A) / 2^n)` (R132). -/
theorem shr64_eq_ofNat (a : Word64) (n : Nat) :
    shr64 a n = Word64.ofNat (a.val / 2 ^ n) := by
  have hval : (shr64 a n).val = a.val / 2 ^ n := by
    apply Nat.eq_of_testBit_eq
    intro i
    rw [testBit_shr64, Nat.testBit_div_two_pow]
  rw [← hval, Word64.ofNat_val]

theorem rotl64_zero (a : Word64) : rotl64 a 0 = a := rfl

theorem rotr64_zero (a : Word64) : rotr64 a 0 = a := rfl

theorem rotl64_of_ne_zero (a : Word64) {n : Nat} (h : n ≠ 0) :
    rotl64 a n = (shl64 a n).or (shr64 a (64 - n)) := if_neg h

theorem rotr64_of_ne_zero (a : Word64) {n : Nat} (h : n ≠ 0) :
    rotr64 a n = (shr64 a n).or (shl64 a (64 - n)) := if_neg h

/-- Bit `i` goes to bit `(i + n) mod 64`: through the left shift where it stays below 64, and
through the right shift where it wraps (R134). -/
theorem testBit_rotl64 (a : Word64) {n i : Nat} (hn : n < 64) (hi : i < 64) :
    (rotl64 a n).val.testBit ((i + n) % 64) = a.val.testBit i := by
  by_cases hzero : n = 0
  · rw [hzero, rotl64_zero, Nat.add_zero, Nat.mod_eq_of_lt hi]
  · rw [rotl64_of_ne_zero a hzero, Word64.testBit_val_or, testBit_shl64, testBit_shr64]
    by_cases hwrap : i + n < 64
    · have hout : a.val.testBit ((i + n) % 64 + (64 - n)) = false :=
        a.testBit_val_of_ge (by omega)
      rw [hout, Nat.mod_eq_of_lt hwrap, Nat.add_sub_cancel, decide_eq_true (by omega),
        Bool.true_and, Bool.or_false]
    · have hback : (i + n) % 64 + (64 - n) = i := by omega
      rw [hback, decide_eq_false (by omega), Bool.false_and, Bool.false_or]

/-- A rotate right is the rotate left by what is missing to 64 (R136). -/
theorem rotr64_eq_rotl64 (a : Word64) {n : Nat} (hn : n < 64) :
    rotr64 a n = rotl64 a ((64 - n) % 64) := by
  by_cases hzero : n = 0
  · rw [hzero, rotr64_zero, Nat.sub_zero, Nat.mod_self, rotl64_zero]
  · rw [Nat.mod_eq_of_lt (by omega), rotr64_of_ne_zero a hzero,
      rotl64_of_ne_zero a (by omega), Nat.sub_sub_self hn.le, Word64.or_comm]

/-- Bit `i` goes to bit `(i - n) mod 64` (R136). -/
theorem testBit_rotr64 (a : Word64) {n i : Nat} (hn : n < 64) (hi : i < 64) :
    (rotr64 a n).val.testBit ((i + 64 - n) % 64) = a.val.testBit i := by
  have hpos : (i + 64 - n) % 64 = (i + (64 - n) % 64) % 64 := by omega
  rw [rotr64_eq_rotl64 a hn, hpos, testBit_rotl64 a (Nat.mod_lt _ (by decide)) hi]

/-- Rotating by half the width swaps the two words (R136). -/
theorem rotl64_thirty_two (a : Word64) : rotl64 a 32 = ⟨a.lo, a.hi⟩ := by
  simp [rotl64, shl64, shr64, Word64.or]

theorem rotr64_thirty_two (a : Word64) : rotr64 a 32 = ⟨a.lo, a.hi⟩ := by
  rw [rotr64_eq_rotl64 a (by decide)]
  exact rotl64_thirty_two a

/-! ### The commands: their records and their meanings -/

section

variable (a : Word64) {n : Word} (p0 p1 m p3 : Word) (s : State)

theorem decode_packRecord_shl :
    decode (packRecord 0x28#8 p0 p1 m p3) = .command (.shl ⟨p0, p1⟩ m) := by
  simp only [decode, Laws.opField_packRecord, Laws.operandA_packRecord, Laws.port2_packRecord]

theorem decode_packRecord_shr :
    decode (packRecord 0x29#8 p0 p1 m p3) = .command (.shr ⟨p0, p1⟩ m) := by
  simp only [decode, Laws.opField_packRecord, Laws.operandA_packRecord, Laws.port2_packRecord]

theorem decode_packRecord_rotl :
    decode (packRecord 0x2A#8 p0 p1 m p3) = .command (.rotl ⟨p0, p1⟩ m) := by
  simp only [decode, Laws.opField_packRecord, Laws.operandA_packRecord, Laws.port2_packRecord]

theorem decode_packRecord_rotr :
    decode (packRecord 0x2B#8 p0 p1 m p3) = .command (.rotr ⟨p0, p1⟩ m) := by
  simp only [decode, Laws.opField_packRecord, Laws.operandA_packRecord, Laws.port2_packRecord]

theorem exec_shl : exec (.shl a m) s = .next (answerShift shl64 a m s) := rfl

theorem exec_shr : exec (.shr a m) s = .next (answerShift shr64 a m s) := rfl

theorem exec_rotl : exec (.rotl a m) s = .next (answerShift rotl64 a m s) := rfl

theorem exec_rotr : exec (.rotr a m) s = .next (answerShift rotr64 a m s) := rfl

theorem exec_rotl_of_lt (h : n.toNat < 64) :
    exec (.rotl a n) s = .next (answer64 (rotl64 a n.toNat) s) := by
  rw [exec_rotl, answerShift_of_lt _ _ _ _ h]

theorem exec_rotr_of_lt (h : n.toNat < 64) :
    exec (.rotr a n) s = .next (answer64 (rotr64 a n.toNat) s) := by
  rw [exec_rotr, answerShift_of_lt _ _ _ _ h]

end

/-- The four commands whose amount R137 bounds answer two free values from 64 on. -/
theorem exec_shift_of_ge {a : Word64} {n : Word} {i : Instr} (s : State) (hn : 64 ≤ n.toNat)
    (hi : i = .shl a n ∨ i = .shr a n ∨ i = .rotl a n ∨ i = .rotr a n) :
    exec i s = .next (answerFree s) := by
  rcases hi with rfl | rfl | rfl | rfl
  · rw [exec_shl, answerShift_of_ge _ _ _ _ hn]
  · rw [exec_shr, answerShift_of_ge _ _ _ _ hn]
  · rw [exec_rotl, answerShift_of_ge _ _ _ _ hn]
  · rw [exec_rotr, answerShift_of_ge _ _ _ _ hn]

/-! ### The statements -/

/-- Settles O29: the left shift renumbers the bits as the product by `2^n` does, modulo 2^64. -/
theorem shlMultipliesByPowerOfTwo : Obligations.ShlMultipliesByPowerOfTwo :=
  fun p0 p1 n p3 s => ⟨decode_packRecord_shl p0 p1 n p3, fun hn => by
    rw [exec_shl, answerShift_of_lt _ _ _ _ hn, shl64_eq_ofNat, answer64_eq]⟩

/-- Settles O30: the zero-filling right shift renumbers the bits as the quotient by `2^n` does. -/
theorem shrDividesByPowerOfTwo : Obligations.ShrDividesByPowerOfTwo :=
  fun p0 p1 n p3 s => ⟨decode_packRecord_shr p0 p1 n p3, fun hn => by
    rw [exec_shr, answerShift_of_lt _ _ _ _ hn, shr64_eq_ofNat, answer64_eq]⟩

/-- Settles O31: the answer is `rotl64`, known bit by bit. -/
theorem rotlMovesEveryBitUp : Obligations.RotlMovesEveryBitUp :=
  fun p0 p1 n p3 s => ⟨decode_packRecord_rotl p0 p1 n p3, fun hn =>
    ⟨_, exec_rotl_of_lt ⟨p0, p1⟩ s hn, fun _ hi => testBit_rotl64 _ hn hi⟩⟩

/-- Settles O32: the answer is `rotr64`, which is `rotl64` by the amount missing to 64. -/
theorem rotrMovesEveryBitDown : Obligations.RotrMovesEveryBitDown := by
  refine ⟨fun p0 p1 n p3 s => ⟨decode_packRecord_rotr p0 p1 n p3, fun hn =>
    ⟨_, exec_rotr_of_lt ⟨p0, p1⟩ s hn, fun _ hi => testBit_rotr64 _ hn hi⟩⟩,
    fun a n s hn => ?_, fun a s => ⟨?_, ?_⟩⟩
  · have hamount : ∀ m : Nat, m < 64 → (BitVec.ofNat 32 m).toNat = m := fun m hm => by
      rw [BitVec.toNat_ofNat]
      omega
    have hr := hamount n hn
    have hl := hamount ((64 - n) % 64) (Nat.mod_lt _ (by decide))
    rw [exec_rotr_of_lt a s (by omega), exec_rotl_of_lt a s (by omega), hr, hl,
      rotr64_eq_rotl64 a hn]
  · rw [exec_rotl_of_lt a s (by decide)]
    exact congrArg (fun w => Host.Outcome.next (answer64 w s)) (rotl64_thirty_two a)
  · rw [exec_rotr_of_lt a s (by decide)]
    exact congrArg (fun w => Host.Outcome.next (answer64 w s)) (rotr64_thirty_two a)

/-- Settles O33: from 64 on each of the four commands answers two free values and draws them. -/
theorem largeShiftAmountsComplete : Obligations.LargeShiftAmountsComplete :=
  fun _ _ s _ hn hi => ⟨_, _, exec_shift_of_ge s hn hi⟩

end Sys2Proof.Machine

/-!
SUPPORT. The comparisons of Word64 as verdicts on integers (R141): the unsigned one on `val`, the
signed one and the sign test on `sval`. The laws of R145 are laws of the order of the integers.
-/

namespace Sys2Proof.Machine

/-! ### The three-way verdict of a linear order -/

/-- The verdict of `x` against `y`: less, greater, or equal (R141). -/
def verdictOf {α : Type} [LT α] [DecidableLT α] (x y : α) : Word :=
  if x < y then verdictLess else if y < x then verdictGreater else verdictEqual

section

variable {α β : Type} [LinearOrder α] [LinearOrder β] {x y : α} {x' y' : β}

theorem verdictOf_of_lt (h : x < y) : verdictOf x y = verdictLess := if_pos h

theorem verdictOf_of_gt (h : y < x) : verdictOf x y = verdictGreater := by
  rw [verdictOf, if_neg h.not_gt, if_pos h]

theorem verdictOf_self (x : α) : verdictOf x x = verdictEqual := by
  rw [verdictOf, if_neg (lt_irrefl x), if_neg (lt_irrefl x)]

/-- The verdict depends on the order of its operands only. -/
theorem verdictOf_congr (hlt : x < y ↔ x' < y') (hgt : y < x ↔ y' < x') :
    verdictOf x y = verdictOf x' y' :=
  if_congr hlt rfl (if_congr hgt rfl rfl)

/-- Swapping the operands negates the verdict (R145). -/
theorem verdictOf_swap (x y : α) : verdictOf y x = -verdictOf x y := by
  rcases lt_trichotomy x y with h | rfl | h
  · rw [verdictOf_of_gt h, verdictOf_of_lt h]
    rfl
  · rw [verdictOf_self]
    rfl
  · rw [verdictOf_of_lt h, verdictOf_of_gt h]
    rfl

end

/-! ### The two readings of a Word64 in order -/

theorem sval_of_signBit {a : Word64} (h : signBit a.hi = true) : sval a = (a.val : Int) - 2 ^ 64 :=
  if_pos h

theorem sval_of_not_signBit {a : Word64} (h : ¬ signBit a.hi = true) : sval a = a.val := if_neg h

/-- The sign bit is the sign of the two's-complement value (R18, R47). -/
theorem sval_neg_iff (a : Word64) : sval a < 0 ↔ signBit a.hi = true := by
  have hlt := a.val_lt
  by_cases h : signBit a.hi = true
  · rw [sval_of_signBit h]
    exact iff_of_true (by omega) h
  · rw [sval_of_not_signBit h]
    exact iff_of_false (by omega) h

/-- The unsigned order decides on the high words, then on the low ones (R144). -/
theorem val_lt_val_iff (a b : Word64) :
    a.val < b.val ↔ a.hi < b.hi ∨ (¬ b.hi < a.hi ∧ a.lo < b.lo) := by
  have ha := a.lo.isLt
  have hb := b.lo.isLt
  simp only [Word64.val, BitVec.lt_def]
  omega

/-- `cmpu` is the verdict of the unsigned values (R144). -/
theorem compareUnsigned_eq_verdictOf (a b : Word64) :
    compareUnsigned a b = verdictOf a.val b.val := by
  rw [compareUnsigned]
  split_ifs with hhi hhi' hlo hlo'
  · exact (verdictOf_of_lt ((val_lt_val_iff a b).mpr (.inl hhi))).symm
  · exact (verdictOf_of_gt ((val_lt_val_iff b a).mpr (.inl hhi'))).symm
  · exact (verdictOf_of_lt ((val_lt_val_iff a b).mpr (.inr ⟨hhi', hlo⟩))).symm
  · exact (verdictOf_of_gt ((val_lt_val_iff b a).mpr (.inr ⟨hhi, hlo'⟩))).symm
  · have hlt : ¬ a.val < b.val := by rw [val_lt_val_iff]; tauto
    have hgt : ¬ b.val < a.val := by rw [val_lt_val_iff]; tauto
    rw [verdictOf, if_neg hlt, if_neg hgt]

/-- Words of one sign are in the order of their bit patterns: both readings differ by the same
constant (R142). -/
theorem sval_lt_sval_iff {a b : Word64} (h : signBit a.hi = signBit b.hi) :
    sval a < sval b ↔ a.val < b.val := by
  rw [sval, sval, h]
  split_ifs <;> omega

/-- A word with the sign bit is below one without (R142). -/
theorem sval_lt_of_signBit {a b : Word64} (ha : signBit a.hi = true)
    (hb : ¬ signBit b.hi = true) : sval a < sval b := by
  rw [← sval_neg_iff] at ha hb
  omega

/-- Between words of one sign the families agree, by the last branch of `compareSigned` (R145). -/
theorem compareSigned_of_signBit_eq {a b : Word64} (h : signBit a.hi = signBit b.hi) :
    compareSigned a b = compareUnsigned a b := if_neg (not_not.mpr h)

theorem compareSigned_of_signBit_ne {a b : Word64} (h : signBit a.hi ≠ signBit b.hi) :
    compareSigned a b = if signBit a.hi then verdictLess else verdictGreater := if_pos h

/-- `compareSigned` is the verdict of the two's-complement values (R142). -/
theorem compareSigned_eq_verdictOf (a b : Word64) :
    compareSigned a b = verdictOf (sval a) (sval b) := by
  by_cases h : signBit a.hi = signBit b.hi
  · rw [compareSigned_of_signBit_eq h, compareUnsigned_eq_verdictOf]
    exact verdictOf_congr (sval_lt_sval_iff h).symm (sval_lt_sval_iff h.symm).symm
  · rw [compareSigned_of_signBit_ne h]
    split_ifs with ha
    · have hb : ¬ signBit b.hi = true := by simpa [ha] using h
      exact (verdictOf_of_lt (sval_lt_of_signBit ha hb)).symm
    · have hb : signBit b.hi = true := by simpa [ha] using h
      exact (verdictOf_of_gt (sval_lt_of_signBit hb ha)).symm

/-- The sign test is the verdict of the two's-complement value against zero (R140). -/
theorem signVerdict_eq_verdictOf (a : Word64) : signVerdict a = verdictOf (sval a) 0 := by
  rw [← compareSigned_zero, compareSigned_eq_verdictOf]
  rfl

/-- A word with the sign bit is below one without as signed and above it as unsigned (R145). -/
theorem compare_of_neg_of_nonneg {a b : Word64} (ha : signBit a.hi = true)
    (hb : ¬ signBit b.hi = true) :
    compareSigned a b = verdictLess ∧ compareUnsigned a b = verdictGreater := by
  rw [compareSigned_eq_verdictOf, compareUnsigned_eq_verdictOf]
  refine ⟨verdictOf_of_lt (sval_lt_of_signBit ha hb), verdictOf_of_gt ?_⟩
  rw [val_lt_val_iff, BitVec.lt_def]
  rw [signBit_iff] at ha hb
  omega

theorem compareSigned_swap (a b : Word64) : compareSigned b a = -compareSigned a b := by
  rw [compareSigned_eq_verdictOf, compareSigned_eq_verdictOf, verdictOf_swap]

theorem compareUnsigned_swap (a b : Word64) : compareUnsigned b a = -compareUnsigned a b := by
  rw [compareUnsigned_eq_verdictOf, compareUnsigned_eq_verdictOf, verdictOf_swap]

/-- Between words of opposite sign the two families answer less and greater, one each (R145). -/
theorem compare_of_signBit_ne {a b : Word64} (h : signBit a.hi ≠ signBit b.hi) :
    (compareSigned a b = verdictLess ∧ compareUnsigned a b = verdictGreater) ∨
      (compareSigned a b = verdictGreater ∧ compareUnsigned a b = verdictLess) := by
  by_cases ha : signBit a.hi = true
  · exact .inl (compare_of_neg_of_nonneg ha (by simpa [ha] using h))
  · have hb : signBit b.hi = true := by simpa [ha] using h
    obtain ⟨hs, hu⟩ := compare_of_neg_of_nonneg hb ha
    rw [compareSigned_swap, compareUnsigned_swap, hs, hu]
    exact .inr ⟨rfl, rfl⟩

/-- Where the signs differ the two verdicts are opposite and nonzero (R145). -/
theorem compareSigned_eq_neg_of_signBit_ne {a b : Word64} (h : signBit a.hi ≠ signBit b.hi) :
    compareSigned a b = -compareUnsigned a b ∧ compareUnsigned a b ≠ 0 := by
  rcases compare_of_signBit_ne h with ⟨hs, hu⟩ | ⟨hs, hu⟩
  · rw [hs, hu]
    decide
  · rw [hs, hu]
    decide

/-- The families agree exactly between words of one sign (R145). -/
theorem compareSigned_eq_compareUnsigned_iff (a b : Word64) :
    compareSigned a b = compareUnsigned a b ↔ signBit a.hi = signBit b.hi := by
  refine ⟨fun hagree => ?_, compareSigned_of_signBit_eq⟩
  by_contra h
  rcases compare_of_signBit_ne h with ⟨hs, hu⟩ | ⟨hs, hu⟩
  · exact absurd (hs.symm.trans (hagree.trans hu)) (by decide)
  · exact absurd (hs.symm.trans (hagree.trans hu)) (by decide)

/-- Equal operands have equal signs, so R145's "or the operands are equal" adds no case. -/
theorem signBit_eq_or_eq_iff (a b : Word64) :
    (signBit a.hi = signBit b.hi ∨ a = b) ↔ signBit a.hi = signBit b.hi :=
  or_iff_left_of_imp fun h => h ▸ rfl

/-! ### The commands: their records and their meanings -/

section

variable (a b : Word64) (p0 p1 p2 p3 : Word) (s : State)

theorem decode_packRecord_sign :
    decode (packRecord 0x2C#8 p0 p1 p2 p3) = .command (.sign ⟨p0, p1⟩) := by
  simp only [decode, Laws.opField_packRecord, Laws.operandA_packRecord]

theorem decode_packRecord_cmps :
    decode (packRecord 0x2D#8 p0 p1 p2 p3) = .command (.cmps ⟨p0, p1⟩ ⟨p2, p3⟩) := by
  simp only [decode, Laws.opField_packRecord, Laws.operandA_packRecord, Laws.operandB_packRecord]

theorem decode_packRecord_cmpu :
    decode (packRecord 0x2E#8 p0 p1 p2 p3) = .command (.cmpu ⟨p0, p1⟩ ⟨p2, p3⟩) := by
  simp only [decode, Laws.opField_packRecord, Laws.operandA_packRecord, Laws.operandB_packRecord]

theorem exec_cmpu : exec (.cmpu a b) s = .next (answer32 (compareUnsigned a b) s) := rfl

end

/-! ### The statements -/

/-- Settles O34: the sign test is the verdict of `sval(A)` against zero. -/
theorem signIsTheSignOfTheValue : Obligations.SignIsTheSignOfTheValue := fun p0 p1 p2 p3 s =>
  ⟨decode_packRecord_sign p0 p1 p2 p3, by rw [exec_sign, signVerdict_eq_verdictOf]; rfl⟩

/-- Settles O35: the sign bits decide first, and words of one sign are in the order of their bit
patterns. -/
theorem cmpsComparesSignedValues : Obligations.CmpsComparesSignedValues := fun p0 p1 p2 p3 s =>
  ⟨decode_packRecord_cmps p0 p1 p2 p3, by rw [exec_cmps, compareSigned_eq_verdictOf]; rfl⟩

/-- Settles O36: high words first and low words second is the order of the values. -/
theorem cmpuComparesUnsignedValues : Obligations.CmpuComparesUnsignedValues :=
  fun p0 p1 p2 p3 s =>
    ⟨decode_packRecord_cmpu p0 p1 p2 p3, by rw [exec_cmpu, compareUnsigned_eq_verdictOf]; rfl⟩

/-- Settles O37: both families are verdicts of a linear order, and between words of opposite sign
the two orders are opposite. -/
theorem comparisonLaws : Obligations.ComparisonLaws := by
  refine ⟨fun a b s => ⟨exec_cmps a b s, exec_cmpu a b s, (exec_sign_eq_exec_cmps_zero a s).symm⟩,
    fun a => ⟨?_, ?_⟩, fun a b => ?_, by decide, by decide⟩
  · rw [compareSigned_eq_verdictOf, verdictOf_self]
    rfl
  · rw [compareUnsigned_eq_verdictOf, verdictOf_self]
    rfl
  · rw [signBit_eq_or_eq_iff]
    exact ⟨compareSigned_eq_compareUnsigned_iff a b, compareSigned_eq_neg_of_signBit_ne,
      compareSigned_swap a b, compareUnsigned_swap a b⟩

end Sys2Proof.Machine

/-!
SUPPORT. The conversions between words and Word64: which value each extension keeps, and which of
its words an answer shows.
-/

namespace Sys2Proof.Machine

theorem sext64_hi (x : Word) : (sext64 x).hi = if signBit x then 0xFFFFFFFF#32 else 0 := rfl

theorem val_sext64 (x : Word) :
    (sext64 x).val = (sext64 x).hi.toNat * 2 ^ 32 + x.toNat := rfl

/-- The high word of a sign-extended word has the sign of the word (R150). -/
theorem signBit_sext64_hi (x : Word) : signBit (sext64 x).hi = signBit x := by
  rw [sext64_hi]
  cases signBit x <;> rfl

/-- Filling the high word with the sign adds `2^64 - 2^32` to a negative word, which is what the two
readings differ by (R150). -/
theorem sval_sext64 (x : Word) : sval (sext64 x) = sint32 x := by
  rw [sval, sint32, signBit_sext64_hi, val_sext64, sext64_hi]
  split_ifs
  · rw [BitVec.toNat_ofNat]
    omega
  · simp

/-- Zero-extension gives back a Word64 exactly where its high word is zero (R153). -/
theorem zext64_lo_eq_iff (a : Word64) : zext64 a.lo = a ↔ a.hi = 0 :=
  ⟨fun h => (congrArg Word64.hi h).symm, fun h => by rw [zext64, ← h]⟩

/-- A zero-extended word is never negative (R153). -/
theorem signVerdict_zext64 (x : Word) :
    signVerdict (zext64 x) = if x = 0 then verdictEqual else verdictGreater := by
  have hhi : (zext64 x).hi = 0#32 := rfl
  have hlo : (zext64 x).lo = x := rfl
  rw [signVerdict, hhi, hlo, signBit_zero]
  by_cases h : x = 0 <;> simp [h]

/-- Two answers from one state differ wherever the Word64 they show differ. -/
theorem answer64_inj {w w' : Word64} {s : State} : answer64 w s = answer64 w' s ↔ w = w' := by
  refine ⟨fun h => ?_, fun h => h ▸ rfl⟩
  have hresponses := congrArg State.responses h
  simp only [answer64_eq, List.append_cancel_left_eq, List.cons.injEq, Response.mk.injEq]
    at hresponses
  obtain ⟨⟨-, hhi, hlo⟩, -⟩ := hresponses
  cases w
  cases w'
  exact congrArg₂ Word64.mk hhi hlo

/-! ### The commands: their records and their meanings -/

section

variable (a : Word64) (x h l p0 p1 p2 p3 : Word) (s : State)

theorem decode_packRecord_tou32 :
    decode (packRecord 0x2F#8 p0 p1 p2 p3) = .command (.tou32 ⟨p0, p1⟩) := by
  simp only [decode, Laws.opField_packRecord, Laws.operandA_packRecord]

theorem decode_packRecord_cvtu :
    decode (packRecord 0x30#8 p0 p1 p2 p3) = .command (.cvtu p0) := by
  simp only [decode, Laws.opField_packRecord, Laws.port0_packRecord]

theorem decode_packRecord_cvts :
    decode (packRecord 0x31#8 p0 p1 p2 p3) = .command (.cvts p0) := by
  simp only [decode, Laws.opField_packRecord, Laws.port0_packRecord]

theorem decode_packRecord_mk64 :
    decode (packRecord 0x32#8 p0 p1 p2 p3) = .command (.mk64 p0 p1) := by
  simp only [decode, Laws.opField_packRecord, Laws.port0_packRecord, Laws.port1_packRecord]

theorem exec_tou32 : exec (.tou32 a) s = .next (answer32 a.lo s) := rfl

theorem exec_cvtu : exec (.cvtu x) s = .next (answer64 (zext64 x) s) := rfl

theorem exec_cvts : exec (.cvts x) s = .next (answer64 (sext64 x) s) := rfl

theorem exec_mk64 : exec (.mk64 h l) s = .next (answer64 ⟨h, l⟩ s) := rfl

end

/-! ### The statements -/

/-- Settles O38: the three answers are copies of the operand's words. -/
theorem unsignedConversions : Obligations.UnsignedConversions := fun p0 p1 p2 p3 s =>
  ⟨decode_packRecord_tou32 p0 p1 p2 p3, exec_tou32 ⟨p0, p1⟩ s,
    decode_packRecord_cvtu p0 p1 p2 p3, exec_cvtu p0 s,
    decode_packRecord_mk64 p0 p1 p2 p3, exec_mk64 p0 p1 s⟩

/-- Settles O39: the answer is `sext64`, which keeps the signed value. -/
theorem cvtsKeepsTheSignedValue : Obligations.CvtsKeepsTheSignedValue := fun p0 p1 p2 p3 s =>
  ⟨decode_packRecord_cvts p0 p1 p2 p3, (sext64 p0).hi, exec_cvts p0 s, rfl, sval_sext64 p0⟩

/-- Settles O40: the low word of both extensions is the word, their signs are those of the values
they keep, and zero-extension is the identity exactly where the high word is zero. -/
theorem conversionRoundTrips : Obligations.ConversionRoundTrips := by
  refine ⟨fun x s => ⟨zext64 x, sext64 x, exec_cvtu x s, exec_cvts x s, exec_tou32 _ s,
    exec_tou32 _ s, ?_, ?_⟩, fun a s => ?_⟩
  · rw [exec_sign, signVerdict_eq_verdictOf, sval_sext64]
    rfl
  · rw [exec_sign, signVerdict_zext64]
    rfl
  · rw [exec_cvtu, ← answer64_eq, Host.Outcome.next.injEq, answer64_inj, zext64_lo_eq_iff]

end Sys2Proof.Machine

/-!
SUPPORT. The generator as a permutation of the 2^64 states (R161): an xorshift is undone bit by bit,
beginning with the bits its shift fills with zeros, and an odd factor cancels modulo 2^64.
-/

namespace Sys2Proof.Word64

/-- `^` acts on each bit of the value (R17). -/
theorem testBit_val_xor (a b : Word64) (i : Nat) :
    (a.xor b).val.testBit i = (a.val.testBit i ^^ b.val.testBit i) := by
  simp only [testBit_val, Word64.xor, BitVec.getLsbD_xor]
  split <;> rfl

/-- Two Word64 of the same 64 bits are the same pair of words. -/
theorem eq_of_testBit_val_eq {a b : Word64} (h : ∀ i, a.val.testBit i = b.val.testBit i) :
    a = b := eq_of_val_eq (Nat.eq_of_testBit_eq h)

theorem val_injective : Function.Injective val := fun _ _ => eq_of_val_eq

theorem finite : Finite Word64 :=
  Finite.of_injective (fun a => (⟨a.val, a.val_lt⟩ : Fin (2 ^ 64)))
    fun _ _ h => val_injective (Fin.mk.inj h)

/-- An odd low word makes the value coprime to the modulus of `W64` (R14). -/
theorem coprime_two_pow_val {m : Word64} (hodd : m.lo.getLsbD 0 = true) :
    Nat.Coprime (2 ^ 64) m.val := by
  have hbit : m.val.testBit 0 = true := by rw [testBit_val, if_pos (by decide), hodd]
  have hmod : m.val % 2 = 1 := by simpa only [Nat.testBit_zero, decide_eq_true_eq] using hbit
  exact Nat.Coprime.pow_left 64 (Nat.coprime_two_left.mpr (Nat.odd_iff.mpr hmod))

end Sys2Proof.Word64

namespace Sys2Proof.Machine

/-! ### The four lines of `advance` are injective and map zero to zero -/

/-- Bit `i` of `v ^ shr(v, n)` determines bit `i` of `v` once bit `i + n` is known, so the bits are
recovered from the top, above which all are zero. -/
theorem xor_shr64_injective {n : Nat} (hn : 0 < n) :
    Function.Injective fun v : Word64 => v.xor (shr64 v n) := by
  intro a b h
  have hstep : ∀ i, a.val.testBit (i + n) = b.val.testBit (i + n) →
      a.val.testBit i = b.val.testBit i := by
    intro i habove
    have hbit := congrArg (fun w => w.val.testBit i) h
    simpa only [Word64.testBit_val_xor, testBit_shr64, habove, Bool.xor_left_inj] using hbit
  have hfrom : ∀ k i, 64 ≤ i + k → a.val.testBit i = b.val.testBit i := by
    intro k
    induction k with
    | zero => exact fun i (hi : 64 ≤ i) => by rw [a.testBit_val_of_ge hi, b.testBit_val_of_ge hi]
    | succ k ih => exact fun i hi => hstep i (ih (i + n) (by omega))
  exact Word64.eq_of_testBit_val_eq fun i => hfrom 64 i (by omega)

/-- Bit `i` of `v ^ shl(v, n)` determines bit `i` of `v` once bit `i - n` is known, so the bits are
recovered from the bottom, where the shift fills with zeros. -/
theorem xor_shl64_injective {n : Nat} (hn : 0 < n) :
    Function.Injective fun v : Word64 => v.xor (shl64 v n) := by
  intro a b h
  refine Word64.eq_of_testBit_val_eq fun i => ?_
  induction i using Nat.strong_induction_on with
  | _ i ih =>
    have hbit := congrArg (fun w => w.val.testBit i) h
    simp only [Word64.testBit_val_xor, testBit_shl64] at hbit
    by_cases hle : n ≤ i
    · rwa [ih (i - n) (by omega), Bool.xor_left_inj] at hbit
    · simpa [hle] using hbit

/-- An odd factor has an inverse modulo 2^64, so it cancels (R161). -/
theorem mulWord64_left_injective {m : Word64} (hodd : m.lo.getLsbD 0 = true) :
    Function.Injective fun v : Word64 => mulWord64 v m := by
  intro a b h
  have hval := congrArg Word64.val h
  simp only [mulWord64_eq_ofNat, Word64.val_ofNat] at hval
  have hmod : a.val ≡ b.val [MOD 2 ^ 64] :=
    Nat.ModEq.cancel_right_of_coprime (Word64.coprime_two_pow_val hodd) hval
  exact Word64.eq_of_val_eq (hmod.eq_of_lt_of_lt a.val_lt b.val_lt)

theorem mulWord64_zero_left (m : Word64) : mulWord64 ⟨0, 0⟩ m = ⟨0, 0⟩ := by
  have hval : (Word64.mk 0 0).val = 0 := rfl
  rw [mulWord64_eq_ofNat, hval, Nat.zero_mul]
  rfl

/-- `advance` is injective: it composes three xorshifts and a product by an odd number (R161). -/
theorem advance_injective {p : Config.Params} (hodd : p.ranq1Mult.lo.getLsbD 0 = true) :
    Function.Injective (advance p) :=
  (mulWord64_left_injective hodd).comp <|
    (xor_shr64_injective (n := 4) (by decide)).comp <|
      (xor_shl64_injective (n := 35) (by decide)).comp <|
        xor_shr64_injective (n := 21) (by decide)

/-- Every xorshift of zero is zero, whatever the multiplier (R161). -/
theorem advance_zero (p : Config.Params) : advance p ⟨0, 0⟩ = ⟨0, 0⟩ :=
  mulWord64_zero_left p.ranq1Mult

/-! ### The commands: their records and their meanings -/

section

variable (seed p0 p1 p2 p3 : Word) (s : State)

theorem decode_packRecord_rcons :
    decode (packRecord 0x40#8 p0 p1 p2 p3) = .command (.rcons p0) := by
  simp only [decode, Laws.opField_packRecord, Laws.port0_packRecord]

theorem decode_packRecord_rseed :
    decode (packRecord 0x41#8 p0 p1 p2 p3) = .command (.rseed p0) := by
  simp only [decode, Laws.opField_packRecord, Laws.port0_packRecord]

theorem decode_packRecord_rreset :
    decode (packRecord 0x42#8 p0 p1 p2 p3) = .command .rreset := by
  simp only [decode, Laws.opField_packRecord]

theorem decode_packRecord_rnext64 :
    decode (packRecord 0x43#8 p0 p1 p2 p3) = .command .rnext64 := by
  simp only [decode, Laws.opField_packRecord]

theorem decode_packRecord_rnext32 :
    decode (packRecord 0x44#8 p0 p1 p2 p3) = .command .rnext32 := by
  simp only [decode, Laws.opField_packRecord]

theorem exec_rcons :
    exec (.rcons seed) s = .next (answerNone (s.setRqV (constructState s.params seed))) := rfl

theorem exec_rseed :
    exec (.rseed seed) s = .next (answerNone (s.setRqV (seedState seed))) := rfl

theorem exec_rreset : exec .rreset s = .next (answerNone (s.setRqV s.params.ranq1Const)) := rfl

/-- The state a draw leaves is the value it answers (R160, R168). -/
theorem exec_rnext64 :
    exec .rnext64 s
      = .next (answer64 (advance s.params s.rqV) (s.setRqV (advance s.params s.rqV))) := rfl

/-- The same step as `RNEXT64`, of which the low word is shown (R170). -/
theorem exec_rnext32 :
    exec .rnext32 s
      = .next (answer32 (advance s.params s.rqV).lo (s.setRqV (advance s.params s.rqV))) := rfl

end

/-! ### The statements -/

/-- Settles O42: an injective map of the finitely many states is a bijection, and so is each of its
iterates, which all fix zero. -/
theorem advanceIsBijectiveFixingZero : Obligations.AdvanceIsBijectiveFixingZero := by
  intro p hodd
  have hinj := advance_injective hodd
  have hfinite := Word64.finite
  exact ⟨Finite.injective_iff_bijective.mp hinj, fun k _ =>
    (hinj.iterate k).eq_iff' (Function.iterate_fixed (advance_zero p) k)⟩

/-- Settles O43: the constructor is one `advance` of the seeded constant. -/
theorem rconsConstructsAndAdvances : Obligations.RconsConstructsAndAdvances :=
  fun p0 p1 p2 p3 s => ⟨decode_packRecord_rcons p0 p1 p2 p3, exec_rcons p0 s⟩

/-- Settles O44: neither command's new state goes through `advance`. -/
theorem rseedAndRresetSetTheStateOutright : Obligations.RseedAndRresetSetTheStateOutright :=
  fun p0 p1 p2 p3 s =>
    ⟨decode_packRecord_rseed p0 p1 p2 p3, exec_rseed p0 s,
      decode_packRecord_rreset p0 p1 p2 p3, exec_rreset s⟩

/-- Settles O45: both draws store the same advanced state and differ in the words they show. -/
theorem drawsAdvanceOnceAndReturnTheNewState :
    Obligations.DrawsAdvanceOnceAndReturnTheNewState := fun p0 p1 p2 p3 s =>
  ⟨decode_packRecord_rnext64 p0 p1 p2 p3, exec_rnext64 s,
    decode_packRecord_rnext32 p0 p1 p2 p3, exec_rnext32 s⟩

end Sys2Proof.Machine

/-!
SUPPORT. The NRan commands (R180 to R189): what the scan for the most overdue slot finds, one
selection as a choice followed by an update, and which fields of the state any command can write.
-/

namespace Sys2Proof.Machine

/-! ### The scan and the choice -/

theorem mostOverdue_succ_of_lt {v : Counters} {k : Nat}
    (h : counterAt v (mostOverdue v k) < counterAt v k) : mostOverdue v (k + 1) = k := if_pos h

theorem mostOverdue_succ_of_le {v : Counters} {k : Nat}
    (h : counterAt v k ≤ counterAt v (mostOverdue v k)) :
    mostOverdue v (k + 1) = mostOverdue v k := if_neg (BitVec.not_lt.mpr h)

/-- The scan finds a largest counter (R186). -/
theorem counterAt_le_mostOverdue (v : Counters) {n i : Nat} (hi : i < n) :
    counterAt v i ≤ counterAt v (mostOverdue v n) := by
  induction n with
  | zero => omega
  | succ k ih =>
    by_cases hlt : counterAt v (mostOverdue v k) < counterAt v k
    · rw [mostOverdue_succ_of_lt hlt]
      rcases Nat.lt_succ_iff_lt_or_eq.mp hi with hik | rfl
      · exact BitVec.le_of_lt (Nat.lt_of_le_of_lt (ih hik) hlt)
      · exact BitVec.le_refl _
    · have hle := BitVec.not_lt.mp hlt
      rw [mostOverdue_succ_of_le hle]
      rcases Nat.lt_succ_iff_lt_or_eq.mp hi with hik | rfl
      · exact ih hik
      · exact hle

/-- The scan moves on only to a strictly greater counter, so among equal largest counters it finds
the lowest index (R189). -/
theorem counterAt_lt_mostOverdue (v : Counters) {n i : Nat} (hi : i < mostOverdue v n) :
    counterAt v i < counterAt v (mostOverdue v n) := by
  induction n with
  | zero => exact absurd hi (Nat.not_lt_zero i)
  | succ k ih =>
    by_cases hlt : counterAt v (mostOverdue v k) < counterAt v k
    · rw [mostOverdue_succ_of_lt hlt] at hi ⊢
      exact Nat.lt_of_le_of_lt (counterAt_le_mostOverdue v hi) hlt
    · rw [mostOverdue_succ_of_le (BitVec.not_lt.mp hlt)] at hi ⊢
      exact ih hi

theorem offeredSlots_pos {n : Word} (hn : n ≠ 0) : 0 < offeredSlots n := by
  have hpos : 0 < n.toNat := Nat.pos_of_ne_zero fun h => hn (BitVec.eq_of_toNat_eq h)
  unfold offeredSlots
  split <;> omega

/-- The test that forces a choice compares with the counter plus one modulo 2^32 (R186). -/
theorem forced_iff (maxMisses c : Word) :
    maxMisses ≤ c + 1 ↔ maxMisses.toNat ≤ (c.toNat + 1) % 2 ^ 32 := by
  rw [BitVec.le_def, BitVec.toNat_add]
  rfl

/-- A selection that offers a slot: a choice, forced without a draw or drawn once, and then the
update of the counters for that choice (R186). -/
theorem selectWith_of_ne_zero {γ : Type} (next : γ → Word × γ) {n : Word} (maxMisses : Word)
    (v : Counters) (g : γ) (hn : n ≠ 0) :
    ∃ (chosen : Nat) (g' : γ),
      (if maxMisses.toNat ≤
            ((counterAt v (mostOverdue v (offeredSlots n))).toNat + 1) % 2 ^ 32 then
          chosen = mostOverdue v (offeredSlots n) ∧ g' = g
        else chosen = (next g).1.toNat % offeredSlots n ∧ g' = (next g).2) ∧
      selectWith next n maxMisses v g =
        ⟨BitVec.ofNat 32 (chosen + 1), tally v (offeredSlots n) chosen, g'⟩ := by
  simp only [← forced_iff, selectWith, if_neg hn]
  split
  · exact ⟨_, _, ⟨rfl, rfl⟩, rfl⟩
  · exact ⟨_, _, ⟨rfl, rfl⟩, rfl⟩

/-! ### The commands: their records and their meanings -/

section

variable (n maxMisses seed p0 p1 p2 p3 : Word) {s : State}

theorem decode_packRecord_nbind :
    decode (packRecord 0x50#8 p0 p1 p2 p3) = .command .nbind := by
  simp only [decode, Laws.opField_packRecord]

theorem decode_packRecord_nseed :
    decode (packRecord 0x51#8 p0 p1 p2 p3) = .command (.nseed p0) := by
  simp only [decode, Laws.opField_packRecord, Laws.port0_packRecord]

theorem decode_packRecord_nselect :
    decode (packRecord 0x52#8 p0 p1 p2 p3) = .command (.nselect p0 p1) := by
  simp only [decode, Laws.opField_packRecord, Laws.port0_packRecord, Laws.port1_packRecord]

theorem exec_nbind (s : State) : exec .nbind s = .next (answerNone (s.setNrBound true)) := rfl

theorem exec_nseed_of_bound (h : s.nrBound = true) :
    exec (.nseed seed) s
      = .next (answerNone ((s.setNrStats (Vector.replicate Config.maxTokens 0)).setRqV
          (seedState seed))) := if_pos h

theorem exec_nseed_of_unbound (h : s.nrBound = false) :
    exec (.nseed seed) s = .next (raise .unbound s) := if_neg (ne_true_of_eq_false h)

theorem exec_nselect_of_unbound (h : s.nrBound = false) :
    exec (.nselect n maxMisses) s = .next (raise .unbound s) := if_neg (ne_true_of_eq_false h)

/-- A bound `NSELECT` delivers what the selection over the built-in generator leaves (R180). -/
theorem exec_nselect_of_selection (h : s.nrBound = true) {x : Word} {v : Counters} {w : Word64}
    (hsel : selectWith (next32 s.params) n maxMisses s.nrStats s.rqV = ⟨x, v, w⟩) :
    exec (.nselect n maxMisses) s = .next { s with
      rqV := w, nrStats := v, responses := s.responses ++ [⟨.ok, 0, x⟩] } := by
  have hbound : exec (.nselect n maxMisses) s = _ := if_pos h
  rw [hbound, hsel]
  rfl

/-- With nothing offered a bound `NSELECT` answers 0 and writes nothing else (R186). -/
theorem exec_nselect_zero (h : s.nrBound = true) :
    exec (.nselect 0 maxMisses) s = .next (answer32 0 s) :=
  exec_nselect_of_selection 0 maxMisses h rfl

end

/-! ### What a command writes -/

/-- A shift or rotate only responds, at every amount (R130, R137). -/
theorem answerShift_writes (f : Word64 → Nat → Word64) (a : Word64) (n : Word) (s : State) :
    (∃ r, answerShift f a n s = s.respond r) ∨ answerShift f a n s = answerFree s := by
  rcases Nat.lt_or_ge n.toNat 64 with hn | hn
  · exact .inl ⟨_, answerShift_of_lt f a n s hn⟩
  · exact .inr (answerShift_of_ge f a n s hn)

/-- Every way a command can change the state: its response, with two free values outside a contract,
`RQ_V`, the bound bit set, or the counters together with `RQ_V` (R23, R24, R25). -/
theorem exec_writes {i : Instr} {s t : State} (h : exec i s = .next t) :
    (∃ r, t = s.respond r) ∨ t = answerFree s ∨ (∃ w r, t = (s.setRqV w).respond r) ∨
      (∃ r, t = (s.setNrBound true).respond r) ∨
      ∃ v w r, t = ((s.setNrStats v).setRqV w).respond r := by
  cases i with
  | wmoddiv a c m =>
    by_cases ham : a < m
    · rw [exec_wmoddiv_of_lt c s ham] at h
      cases h
      exact .inl ⟨_, rfl⟩
    · rw [exec_wmoddiv_of_le c s (BitVec.not_lt.mp ham)] at h
      cases h
      exact .inr (.inl rfl)
  | shl | shr | rotl | rotr =>
    cases h
    exact (answerShift_writes _ _ _ _).imp_right .inl
  | rcons | rseed | rreset | rnext64 | rnext32 =>
    cases h
    exact .inr (.inr (.inl ⟨_, _, rfl⟩))
  | nbind =>
    cases h
    exact .inr (.inr (.inr (.inl ⟨_, rfl⟩)))
  | nseed seed =>
    cases hb : s.nrBound with
    | true =>
      rw [exec_nseed_of_bound seed hb] at h
      cases h
      exact .inr (.inr (.inr (.inr ⟨_, _, _, rfl⟩)))
    | false =>
      rw [exec_nseed_of_unbound seed hb] at h
      cases h
      exact .inl ⟨_, rfl⟩
  | nselect n maxMisses =>
    cases hb : s.nrBound with
    | true =>
      rw [exec_nselect_of_selection n maxMisses hb rfl] at h
      cases h
      exact .inr (.inr (.inr (.inr ⟨_, _, _, rfl⟩)))
    | false =>
      rw [exec_nselect_of_unbound n maxMisses hb] at h
      cases h
      exact .inl ⟨_, rfl⟩
  -- the other commands only respond (R28)
  | _ =>
    cases h
    exact .inl ⟨_, rfl⟩

/-- No command writes 0 to `NR_BOUND` (R25, R182). -/
theorem exec_keeps_bound {i : Instr} {s t : State} (h : exec i s = .next t)
    (hb : s.nrBound = true) : t.nrBound = true := by
  rcases exec_writes h with ⟨r, rfl⟩ | rfl | ⟨w, r, rfl⟩ | ⟨r, rfl⟩ | ⟨v, w, r, rfl⟩
  · exact hb
  · exact hb
  · exact hb
  · rfl
  · exact hb

/-! ### The statements -/

/-- Settles O47: the next state of `NBIND`, and no command's writes clear the bit. -/
theorem nbindBinds : Obligations.NbindBinds :=
  ⟨fun _ _ _ => exec_keeps_bound, fun p0 p1 p2 p3 s =>
    ⟨decode_packRecord_nbind p0 p1 p2 p3, exec_nbind s⟩⟩

/-- Settles O48: the two cases of the bound bit. -/
theorem nseedZeroesCountersAndReseeds : Obligations.NseedZeroesCountersAndReseeds :=
  fun p0 p1 p2 p3 _ =>
    ⟨decode_packRecord_nseed p0 p1 p2 p3, exec_nseed_of_unbound p0, exec_nseed_of_bound p0⟩

/-- Settles O49: both commands raise `Unbound` before they look at an operand. -/
theorem unboundSelectorAnswersUnbound : Obligations.UnboundSelectorAnswersUnbound :=
  fun n maxMisses seed _ h =>
    ⟨exec_nselect_of_unbound n maxMisses h, exec_nseed_of_unbound seed h, by decide⟩

/-- Settles O50: the scan finds the lowest largest counter, the selection is a choice and the
update for it, and the command delivers that selection. -/
theorem nselectFollowsTheSevenSteps : Obligations.NselectFollowsTheSevenSteps := by
  intro n maxMisses p2 p3 s
  refine ⟨decode_packRecord_nselect n maxMisses p2 p3, exec_nselect_of_unbound n maxMisses,
    ?zero, ?offered⟩
  case zero =>
    rintro h rfl
    exact exec_nselect_zero maxMisses h
  case offered =>
    intro h hn
    obtain ⟨chosen, w, hchoice, hsel⟩ :=
      selectWith_of_ne_zero (next32 s.params) maxMisses s.nrStats s.rqV hn
    exact ⟨offeredSlots n, mostOverdue s.nrStats (offeredSlots n), chosen, w,
      tally s.nrStats (offeredSlots n) chosen, rfl, mostOverdue_lt _ (offeredSlots_pos hn),
      fun _ => counterAt_le_mostOverdue s.nrStats, fun _ => counterAt_lt_mostOverdue s.nrStats,
      hchoice, fun _ => counterAt_tally s.nrStats (offeredSlots n) chosen,
      exec_nselect_of_selection n maxMisses h hsel⟩

end Sys2Proof.Machine

/-!
SUPPORT. The two error responses (R200 to R203): which records raise `IllegalOp`, what a step makes
of a presented record, and that a step either only raises an error or answers `OK`.
-/

namespace Sys2Proof.Machine

/-! ### The step of a presented record -/

/-- None of the 29 opcodes is in a reserved range, so a reserved `op` reaches the last row of the
opcode map (R59, R62). -/
theorem decode_of_opReserved {r : CommandRecord} (h : opReserved (opField r) = true) :
    decode r = .illegal (opField r) := by
  unfold decode
  split
  case h_30 => rfl
  all_goals
    next hop =>
      rw [hop] at h
      exact absurd h (by decide)

section

variable {s t : State} {r : CommandRecord} {rest : List Input}

theorem step_of_decode_command {i : Instr} (hp : s.pending = .command r :: rest)
    (hd : decode r = .command i) : step s = exec i (s.setPending rest) := by
  simp only [step, nextTask, hp, hd]

theorem step_of_decode_illegal {op : OpCode} (hp : s.pending = .command r :: rest)
    (hd : decode r = .illegal op) : step s = .next (raise .illegalOp (s.setPending rest)) := by
  simp only [step, nextTask, hp, hd, rejectRecord]

end

/-! ### The status of an answer -/

/-- `t` gives one response more than `s`, and its status is `OK` (R56). -/
def AnswersOk (s t : State) : Prop := ∃ x y, t.responses = s.responses ++ [⟨.ok, x, y⟩]

/-- A shift or rotate answers `OK` at every amount (R130, R137). -/
theorem answersOk_answerShift (f : Word64 → Nat → Word64) (a : Word64) (n : Word) (s : State) :
    AnswersOk s (answerShift f a n s) := by
  rcases Nat.lt_or_ge n.toNat 64 with hn | hn
  · rw [answerShift_of_lt f a n s hn]
    exact ⟨_, _, rfl⟩
  · rw [answerShift_of_ge f a n s hn]
    exact ⟨_, _, rfl⟩

/-- A command answers `OK` or does nothing but raise an error; only `NSEED` and `NSELECT` can raise
one (R200, R202). -/
theorem exec_raises_or_answersOk {i : Instr} {s t : State} (h : exec i s = .next t) :
    (∃ c, t = raise c s) ∨ AnswersOk s t := by
  cases i with
  | wmoddiv a c m =>
    by_cases ham : a < m
    · rw [exec_wmoddiv_of_lt c s ham] at h
      cases h
      exact .inr ⟨_, _, rfl⟩
    · rw [exec_wmoddiv_of_le c s (BitVec.not_lt.mp ham)] at h
      cases h
      exact .inr ⟨_, _, rfl⟩
  | shl | shr | rotl | rotr =>
    cases h
    exact .inr (answersOk_answerShift _ _ _ _)
  | nseed seed =>
    cases hb : s.nrBound with
    | true =>
      rw [exec_nseed_of_bound seed hb] at h
      cases h
      exact .inr ⟨_, _, rfl⟩
    | false =>
      rw [exec_nseed_of_unbound seed hb] at h
      cases h
      exact .inl ⟨_, rfl⟩
  | nselect n maxMisses =>
    cases hb : s.nrBound with
    | true =>
      rw [exec_nselect_of_selection n maxMisses hb rfl] at h
      cases h
      exact .inr ⟨_, _, rfl⟩
    | false =>
      rw [exec_nselect_of_unbound n maxMisses hb] at h
      cases h
      exact .inl ⟨_, rfl⟩
  -- the other commands have one answer each, with status `OK`
  | _ =>
    cases h
    exact .inr ⟨_, _, rfl⟩

/-- So does the step of any presented record, legal or not, over the state without that record
(R201, R202). -/
theorem step_raises_or_answersOk {s t : State} {r : CommandRecord} {rest : List Input}
    (hp : s.pending = .command r :: rest) (h : step s = .next t) :
    (∃ c, t = raise c (s.setPending rest)) ∨ AnswersOk (s.setPending rest) t := by
  cases hd : decode r with
  | command i =>
    rw [step_of_decode_command hp hd] at h
    exact exec_raises_or_answersOk h
  | illegal op =>
    rw [step_of_decode_illegal hp hd] at h
    cases h
    exact .inl ⟨_, rfl⟩

/-! ### The statements -/

/-- Settles O7: the record decodes to `illegal(op)`, and raising an error is its response alone. -/
theorem reservedRecordAnswersIllegalOp : Obligations.ReservedRecordAnswersIllegalOp :=
  fun _ _ _ hp hres => ⟨step_of_decode_illegal hp (decode_of_opReserved hres), by decide⟩

/-- Settles O8: the one new response names the case of the step, and the case that answers `OK` is
excluded. -/
theorem errorResponsesWriteNoState : Obligations.ErrorResponsesWriteNoState := by
  intro s t r rest a hp hstep hresp hne
  rcases step_raises_or_answersOk hp hstep with ⟨c, rfl⟩ | ⟨x, y, hok⟩
  · obtain rfl : (⟨causeStatus c, 0, 0⟩ : Response) = a :=
      List.singleton_inj.mp (List.append_cancel_left hresp)
    exact ⟨rfl, rfl, raise_eq c (s.setPending rest)⟩
  · obtain rfl : (⟨.ok, x, y⟩ : Response) = a :=
      List.singleton_inj.mp (List.append_cancel_left (hok.symm.trans hresp))
    exact absurd rfl hne

end Sys2Proof.Machine

/-!
SUPPORT. The opcode map as a bijection between commands and records (R57, R59, R62): the decoder
reads back every record the encoder writes, and a legal record differs from the encoder's only in
the ports its format does not read.
-/

namespace Sys2Proof.Machine

/-- Every command is read back from its own record, in the fields its format reads (R62). -/
theorem decode_encode (i : Instr) : decode (encode i) = .command i := by
  cases i with
  | wmuladd a b c => exact decode_packRecord_wmuladd a b c 0
  | wmoddiv a c m => exact decode_packRecord_wmoddiv a c m 0
  | add a b => exact decode_packRecord_add a.hi a.lo b.hi b.lo
  | sub a b => exact decode_packRecord_sub a.hi a.lo b.hi b.lo
  | mulu a v => exact decode_packRecord_mulu v a.hi a.lo 0
  | muls a v => exact decode_packRecord_muls v a.hi a.lo 0
  | mul64 a b => exact decode_packRecord_mul64 a.hi a.lo b.hi b.lo
  | divu a v => exact decode_packRecord_divu v a.hi a.lo 0
  | divs a v => exact decode_packRecord_divs v a.hi a.lo 0
  | neg a => exact decode_packRecord_neg a.hi a.lo 0 0
  | shl a n => exact decode_packRecord_shl a.hi a.lo n 0
  | shr a n => exact decode_packRecord_shr a.hi a.lo n 0
  | rotl a n => exact decode_packRecord_rotl a.hi a.lo n 0
  | rotr a n => exact decode_packRecord_rotr a.hi a.lo n 0
  | sign a => exact decode_packRecord_sign a.hi a.lo 0 0
  | cmps a b => exact decode_packRecord_cmps a.hi a.lo b.hi b.lo
  | cmpu a b => exact decode_packRecord_cmpu a.hi a.lo b.hi b.lo
  | tou32 a => exact decode_packRecord_tou32 a.hi a.lo 0 0
  | cvtu x => exact decode_packRecord_cvtu x 0 0 0
  | cvts x => exact decode_packRecord_cvts x 0 0 0
  | mk64 h l => exact decode_packRecord_mk64 h l 0 0
  | rcons seed => exact decode_packRecord_rcons seed 0 0 0
  | rseed seed => exact decode_packRecord_rseed seed 0 0 0
  | rreset => exact decode_packRecord_rreset 0 0 0 0
  | rnext64 => exact decode_packRecord_rnext64 0 0 0 0
  | rnext32 => exact decode_packRecord_rnext32 0 0 0 0
  | nbind => exact decode_packRecord_nbind 0 0 0 0
  | nseed seed => exact decode_packRecord_nseed seed 0 0 0
  | nselect n maxMisses => exact decode_packRecord_nselect n maxMisses 0 0

/-- Row by row of the opcode map: a command read from a record has the `op` of the record (R57). -/
theorem opcode_of_decode {r : CommandRecord} {i : Instr} (h : decode r = .command i) :
    i.opcode = opField r := by
  unfold decode at h
  split at h
  case h_30 => cases h
  all_goals
    next hop =>
      cases h
      exact hop.symm

/-- Row by row of the opcode map: the record of a command holds the ports its format reads, as they
stand in the record it was read from, and zeros (R54, R58, R62). -/
theorem encode_of_decode {r : CommandRecord} {i : Instr} (h : decode r = .command i) :
    encode i = clearPortsFrom i.format.portsRead r := by
  rw [clearPortsFrom, ← opcode_of_decode h]
  unfold decode at h
  split at h
  case h_30 => cases h
  all_goals
    cases h
    rfl

/-- The opcode map has a row for each `op` outside the five reserved ranges (R57, R59). -/
theorem exists_decode_of_not_opReserved {r : CommandRecord} (h : opReserved (opField r) = false) :
    ∃ i, decode r = .command i := by
  unfold decode
  split
  -- the last row is reached only past all 29 opcodes, which fill the gaps between the ranges
  case h_30 =>
    simp only [opReserved, Bool.or_eq_false_iff, Bool.and_eq_false_iff,
      decide_eq_false_iff_not] at h
    simp only [imp_false, ← BitVec.toNat_inj, BitVec.toNat_ofNat] at *
    omega
  all_goals exact ⟨_, rfl⟩

theorem opReserved_of_le {op : OpCode} (h : 0x53 ≤ op.toNat) : opReserved op = true := by
  simp [opReserved, h]

/-- The last range holds 173 of the reserved values; below it there are 83 values to look at
(R59). -/
theorem countP_opReserved :
    (List.range 256).countP (fun x => opReserved (BitVec.ofNat 8 x)) = 227 := by
  have hsplit : List.range 256 = List.range 0x53 ++ List.range' 0x53 173 := by
    rw [List.range_eq_range', List.range_eq_range', List.range'_append]
  have hlast : ∀ x ∈ List.range' 0x53 173, opReserved (BitVec.ofNat 8 x) = true := by
    intro x hx
    rw [List.mem_range'_1] at hx
    exact opReserved_of_le (by rw [BitVec.toNat_ofNat]; omega)
  rw [hsplit, List.countP_append, List.countP_eq_length.mpr hlast, List.length_range']
  decide

/-! ### The statements -/

/-- Settles O1: the decoder reads the encoder's record row by row. -/
theorem decodeEncodeRoundTrip : Obligations.DecodeEncodeRoundTrip := fun i _ => decode_encode i

/-- Settles O2: the cleared record is the encoder's, which decodes to its command. -/
theorem encodeClearsUnreadPorts : Obligations.EncodeClearsUnreadPorts := by
  intro r i h
  have hencode := encode_of_decode h
  exact ⟨hencode, hencode ▸ decode_encode i⟩

/-- Settles O3: a reserved `op` has no row in the opcode map and every other one has. -/
theorem reservedOpDecodesToIllegal : Obligations.ReservedOpDecodesToIllegal := by
  refine ⟨fun r => ?_, countP_opReserved⟩
  cases hres : opReserved (opField r) with
  | true => exact .inl ⟨rfl, decode_of_opReserved hres⟩
  | false =>
    obtain ⟨i, hi⟩ := exists_decode_of_not_opReserved hres
    exact .inr ⟨rfl, i, hi, opcode_of_decode hi⟩

/-- Settles O4: the decoder evaluated on each record. -/
theorem writtenOutRecordsDecode : Obligations.WrittenOutRecordsDecode :=
  ⟨by decide, by decide, by decide, by decide, by decide, by decide⟩

end Sys2Proof.Machine


/-!
SUPPORT. What a selection makes of the streak counters (R188 to R195): the slot it answers, and the
fairness bound as a bound on the size of sets of overdue slots.
-/

namespace Sys2Proof.Machine

/-! ### The chosen slot -/

/-- Steps 3 to 5 of R186: the most overdue of the offered slots where its counter plus one reaches
`maxMisses`, and otherwise the slot one draw names; `w` is the generator state this leaves. -/
def IsChoice (s : State) (n maxMisses : Word) (chosen : Nat) (w : Word64) : Prop :=
  let due := mostOverdue s.nrStats (offeredSlots n)
  (maxMisses ≤ counterAt s.nrStats due + 1 ∧ chosen = due ∧ w = s.rqV) ∨
    (counterAt s.nrStats due + 1 < maxMisses ∧
      chosen = (advance s.params s.rqV).lo.toNat % offeredSlots n ∧ w = advance s.params s.rqV)

/-- A bound `NSELECT` that offers a slot makes one choice and updates the counters for it (R186). -/
theorem exec_nselect_of_ne_zero {n : Word} (maxMisses : Word) {s : State} (hb : s.nrBound = true)
    (hn : n ≠ 0) :
    ∃ (chosen : Nat) (w : Word64), IsChoice s n maxMisses chosen w ∧
      exec (.nselect n maxMisses) s = .next { s with
        rqV := w
        nrStats := tally s.nrStats (offeredSlots n) chosen
        responses := s.responses ++ [⟨.ok, 0, BitVec.ofNat 32 (chosen + 1)⟩] } := by
  obtain ⟨chosen, w, hchoice, hsel⟩ :=
    selectWith_of_ne_zero (next32 s.params) maxMisses s.nrStats s.rqV hn
  refine ⟨chosen, w, ?_, exec_nselect_of_selection n maxMisses hb hsel⟩
  split_ifs at hchoice with hforced
  · exact .inl ⟨(forced_iff _ _).mpr hforced, hchoice⟩
  · exact .inr ⟨BitVec.not_le.mp (mt (forced_iff _ _).mp hforced), hchoice⟩

/-- Forced or drawn, the chosen slot is one of the offered ones (R191). -/
theorem IsChoice.lt_offeredSlots {s : State} {n maxMisses : Word} {chosen : Nat} {w : Word64}
    (h : IsChoice s n maxMisses chosen w) (hn : n ≠ 0) : chosen < offeredSlots n := by
  rcases h with ⟨-, rfl, -⟩ | ⟨-, rfl, -⟩
  · exact mostOverdue_lt s.nrStats (offeredSlots_pos hn)
  · exact Nat.mod_lt _ (offeredSlots_pos hn)

theorem offeredSlots_le (n : Word) : offeredSlots n ≤ 15 ∧ offeredSlots n ≤ n.toNat := by
  unfold offeredSlots
  split <;> omega

theorem offeredSlots_of_le {n : Word} (h : n.toNat ≤ 15) : offeredSlots n = n.toNat :=
  if_neg (by omega)

theorem counterAt_tally_chosen (v : Counters) {k chosen : Nat} (hk : k ≤ 15) (hc : chosen < k) :
    counterAt (tally v k chosen) chosen = 0 := by
  rw [counterAt_tally v k chosen (show chosen < 16 by omega), if_pos hc, if_pos rfl]

/-! ### The fairness bound -/

/-- The offered slots whose counter exceeds `maxMisses + n - 2 - j`: R195 admits at most `j`. -/
def overdueSlots (n maxMisses : Nat) (v : Counters) (j : Nat) : Finset Nat :=
  (Finset.range n).filter fun i => maxMisses + n < (counterAt v i).toNat + j + 2

theorem mem_overdueSlots {n m : Nat} {v : Counters} {j i : Nat} :
    i ∈ overdueSlots n m v j ↔ i < n ∧ m + n < (counterAt v i).toNat + j + 2 := by
  rw [overdueSlots, Finset.mem_filter, Finset.mem_range]

theorem streakBound_iff (n m : Nat) (v : Counters) :
    Safety.streakBound n m v ↔ ∀ j, j < n → (overdueSlots n m v j).card ≤ j := by
  simp only [Safety.streakBound, List.countP_eq_length_filter]
  rfl

/-- No counter exceeds the largest value the bound admits (R195). -/
theorem counterAt_le_of_streakBound {n m : Nat} {v : Counters}
    (h : Safety.streakBound n m v) {i : Nat} (hi : i < n) :
    (counterAt v i).toNat + 2 ≤ m + n := by
  have hnone : (overdueSlots n m v 0).card ≤ 0 := (streakBound_iff n m v).mp h 0 (by omega)
  rw [Nat.le_zero, Finset.card_eq_zero] at hnone
  by_contra hover
  have hmem : i ∈ overdueSlots n m v 0 := mem_overdueSlots.mpr ⟨hi, by omega⟩
  rw [hnone] at hmem
  exact Finset.notMem_empty i hmem

/-- R195's "no counter wraps". -/
theorem no_wrap_of_streakBound {n m : Nat} {v : Counters} (hwrap : m + n ≤ 2 ^ 32)
    (h : Safety.streakBound n m v) : ∀ i, i < n → (counterAt v i).toNat + 1 < 2 ^ 32 := by
  intro i hi
  have hle := counterAt_le_of_streakBound h hi
  omega

theorem toNat_add_one {c : Word} (h : c.toNat + 1 < 2 ^ 32) : (c + 1).toNat = c.toNat + 1 :=
  (BitVec.toNat_add c 1).trans (Nat.mod_eq_of_lt h)

/-- The chosen slot is as overdue as any other, or no slot is near `maxMisses` (R186). -/
def ChoiceIsDue (n maxMisses : Nat) (v : Counters) (chosen : Nat) : Prop :=
  (∀ i, i < n → (counterAt v i).toNat ≤ (counterAt v chosen).toNat) ∨
    ∀ i, i < n → (counterAt v i).toNat + 1 < maxMisses

/-- The slots overdue after the update were overdue by one more before it, and the chosen one is
none of them: where no counter wraps, every other offered counter goes up by one (R190). -/
theorem overdueSlots_tally_subset {n m : Nat} {v : Counters} {chosen j : Nat} (hn : n ≤ 15)
    (hm : 1 ≤ m) (hwrap : ∀ i, i < n → (counterAt v i).toNat + 1 < 2 ^ 32) (hj : j < n) :
    overdueSlots n m (tally v n chosen) j ⊆ (overdueSlots n m v (j + 1)).erase chosen := by
  intro i hi
  obtain ⟨hin, hover⟩ := mem_overdueSlots.mp hi
  rw [counterAt_tally v n chosen (show i < 16 by omega), if_pos hin] at hover
  split_ifs at hover with hchosen
  · have hzero : (0 : Word).toNat = 0 := rfl
    omega
  · rw [toNat_add_one (hwrap i hin)] at hover
    exact Finset.mem_erase.mpr ⟨hchosen, mem_overdueSlots.mpr ⟨hin, by omega⟩⟩

/-- If any slot is overdue, the chosen one is. -/
theorem mem_overdueSlots_of_due {n m : Nat} {v : Counters} {chosen i j : Nat} (hc : chosen < n)
    (hdue : ChoiceIsDue n m v chosen) (hj : j ≤ n) (hi : i ∈ overdueSlots n m v j) :
    chosen ∈ overdueSlots n m v j := by
  obtain ⟨hin, hover⟩ := mem_overdueSlots.mp hi
  rcases hdue with hmax | hbelow
  · have hle := hmax i hin
    exact mem_overdueSlots.mpr ⟨hc, by omega⟩
  · have hlt := hbelow i hin
    omega

/-- Updating for a due choice keeps the bound: of the at most `j + 1` slots overdue by `j + 1`, the
chosen one drops out (R195). -/
theorem streakBound_tally {n m : Nat} {v : Counters} {chosen : Nat} (hn : n ≤ 15) (hm : 1 ≤ m)
    (hwrap : m + n ≤ 2 ^ 32) (hc : chosen < n) (hdue : ChoiceIsDue n m v chosen)
    (h : Safety.streakBound n m v) : Safety.streakBound n m (tally v n chosen) := by
  have hnowrap := no_wrap_of_streakBound hwrap h
  rw [streakBound_iff] at h ⊢
  intro j hj
  have hsub := Finset.card_le_card (overdueSlots_tally_subset (chosen := chosen) hn hm hnowrap hj)
  have hbefore : (overdueSlots n m v (j + 1)).card ≤ j + 1 := by
    rcases Nat.lt_or_ge (j + 1) n with hlt | hge
    · exact h (j + 1) hlt
    · calc (overdueSlots n m v (j + 1)).card ≤ (Finset.range n).card :=
            Finset.card_le_card (Finset.filter_subset _ _)
        _ ≤ j + 1 := (Finset.card_range n).trans_le hge
  rcases (overdueSlots n m v (j + 1)).eq_empty_or_nonempty with hnone | ⟨i, hi⟩
  · rw [hnone, Finset.erase_empty, Finset.card_empty] at hsub
    omega
  · have hmem : chosen ∈ overdueSlots n m v (j + 1) := mem_overdueSlots_of_due hc hdue hj hi
    rw [Finset.card_erase_of_mem hmem] at hsub
    omega

/-- The forced choice is a largest counter; a draw is only made while every counter plus one is
below `maxMisses` (R186, R195). -/
theorem IsChoice.isDue {s : State} {n maxMisses : Word} {chosen : Nat} {w : Word64}
    (h : IsChoice s n maxMisses chosen w) (hn : n ≠ 0)
    (hnowrap : ∀ i, i < offeredSlots n → (counterAt s.nrStats i).toNat + 1 < 2 ^ 32) :
    ChoiceIsDue (offeredSlots n) maxMisses.toNat s.nrStats chosen := by
  have hmax : ∀ i, i < offeredSlots n → (counterAt s.nrStats i).toNat
      ≤ (counterAt s.nrStats (mostOverdue s.nrStats (offeredSlots n))).toNat :=
    fun _ => counterAt_le_mostOverdue s.nrStats
  rcases h with ⟨-, rfl, -⟩ | ⟨hdrawn, -, -⟩
  · exact .inl hmax
  · rw [BitVec.lt_def, toNat_add_one (hnowrap _ (mostOverdue_lt s.nrStats (offeredSlots_pos hn)))]
      at hdrawn
    exact .inr fun i hi => by
      have hle := hmax i hi
      omega

/-! ### The statements -/

/-- Settles O52: the choice is due in both branches, and the update for a due choice keeps the
bound. -/
theorem nselectKeepsTheStreakBound : Obligations.NselectKeepsTheStreakBound := by
  intro n maxMisses s t hb hpos hle hm hwrap hbound hexec
  have hn : n ≠ 0 := by
    rintro rfl
    exact absurd hpos (by decide)
  obtain ⟨chosen, w, hchoice, hnext⟩ := exec_nselect_of_ne_zero maxMisses hb hn
  have hlt := hchoice.lt_offeredSlots hn
  rw [hnext] at hexec
  cases hexec
  rw [← offeredSlots_of_le hle] at hwrap hbound ⊢
  exact streakBound_tally (offeredSlots_le n).1 hm hwrap hlt
    (hchoice.isDue hn (no_wrap_of_streakBound hwrap hbound)) hbound

/-- Settles O53: of zero counters no slot is overdue, and a bounded counter is at most the value
with no slot above it. -/
theorem streakBoundStartsAndBounds : Obligations.StreakBoundStartsAndBounds := by
  intro n m hn hle hm
  refine ⟨(streakBound_iff n m _).mpr fun j hj => ?_, fun v i hbound hi => ?_⟩
  · have hnone : overdueSlots n m (Vector.replicate 16 0) j = ∅ :=
      Finset.filter_eq_empty_iff.mpr fun i _ => by
        have hzero : (counterAt (Vector.replicate 16 0) i).toNat = 0 := by
          rw [counterAt_zeros]; rfl
        omega
    rw [hnone, Finset.card_empty]
    exact Nat.zero_le j
  · have hc := counterAt_le_of_streakBound hbound hi
    omega

/-- Settles O51: the choice is an offered slot, so its number plus one is not truncated, and the
update clears its counter. -/
theorem nselectAnswersAnOfferedSlot : Obligations.NselectAnswersAnOfferedSlot := by
  intro n maxMisses s hb hn
  obtain ⟨chosen, w, hchoice, hnext⟩ := exec_nselect_of_ne_zero maxMisses hb hn
  have hlt := hchoice.lt_offeredSlots hn
  obtain ⟨hfifteen, hoffered⟩ := offeredSlots_le n
  have hanswer : (BitVec.ofNat 32 (chosen + 1)).toNat = chosen + 1 := by
    rw [BitVec.toNat_ofNat]
    omega
  refine ⟨_, _, hnext, rfl, ?_⟩
  rw [hanswer, Nat.add_sub_cancel]
  exact ⟨by omega, by omega, by omega, counterAt_tally_chosen s.nrStats hfifteen hlt⟩

/-- Settles O46: zero advances to zero (R161), so both draws show zero and a selection that draws
takes slot 0 of the offered ones. -/
theorem zeroGeneratorStateIsAbsorbing : Obligations.ZeroGeneratorStateIsAbsorbing := by
  intro s n maxMisses hzero
  have hadvance : advance s.params s.rqV = ⟨0, 0⟩ := by rw [hzero, advance_zero]
  have hkeep : s.setRqV ⟨0, 0⟩ = s := by rw [← hzero]; rfl
  refine ⟨?rnext64, ?rnext32, fun hb hn hdrawn => ?nselect⟩
  case rnext64 => rw [exec_rnext64, hadvance, hkeep, answer64_eq]
  case rnext32 => rw [exec_rnext32, hadvance, hkeep, answer32_eq]
  case nselect =>
    obtain ⟨chosen, w, hchoice, hnext⟩ := exec_nselect_of_ne_zero maxMisses hb hn
    rcases hchoice with ⟨hforced, -, -⟩ | ⟨-, hchosen, hw⟩
    · exact absurd hdrawn (BitVec.not_lt.mpr hforced)
    · rw [hadvance] at hchosen hw
      have hslot : chosen = 0 := hchosen.trans (Nat.zero_mod _)
      exact ⟨_, hnext, hw, by rw [hslot]; rfl⟩

/-- Settles O54: the call is forced to slot 0, the lowest of equal counters, and the two slots
passed over count up to 1. -/
theorem documentFairnessClaimFails : Obligations.DocumentFairnessClaimFails := by
  intro s hb hzeros
  have hsel : selectWith (next32 s.params) 3 1 s.nrStats s.rqV
      = ⟨1, tally (Vector.replicate 16 0) 3 0, s.rqV⟩ := by
    rw [hzeros]
    rfl
  exact ⟨_, exec_nselect_of_selection 3 1 hb hsel, rfl, rfl⟩

end Sys2Proof.Machine


/-!
SUPPORT. Every command at once, in two cases (R233): inside the host's contract it answers `OK` and
writes only what the rules let it write, the same whatever free values come next; outside, it raises
`Unbound` or answers two free values. Every step is one of these, an error, a reset, or a wait.
-/

namespace Sys2Proof.Machine

/-! ### What a command may write -/

/-- What the rules let the command `i` leave in the block's three items, from `s` (R23, R24, R25):
the generator, the counters, of which slot 15 at most cleared (R188), and the bound bit. -/
structure MayWrite (i : Instr) (s : State) (w : Word64) (v : Counters) (b : Bool) : Prop where
  rqV : w = s.rqV ∨ 0x40 ≤ i.opcode.toNat ∧ i ≠ .nbind
  nrStats : v = s.nrStats ∨ i.opcode = 0x51#8 ∨ i.opcode = 0x52#8
  slot15 : counterAt v 15 = counterAt s.nrStats 15 ∨ counterAt v 15 = 0
  nrBound : b = (s.nrBound || decide (i = .nbind))

/-- The state after a command that answers `OK` with the words `x`, `y`. -/
def written (w : Word64) (v : Counters) (b : Bool) (x y : Word) (s : State) : State :=
  { s with rqV := w, nrStats := v, nrBound := b, responses := s.responses ++ [⟨.ok, x, y⟩] }

/-- `i` answers `OK` and writes what it may, whatever free values come next. -/
def AnswersSpecified (i : Instr) (s : State) : Prop :=
  ∃ (w : Word64) (v : Counters) (b : Bool) (x y : Word), MayWrite i s w v b ∧
    ∀ k, exec i { s with draws := k } = .next (written w v b x y { s with draws := k })

section

variable {i : Instr} {s : State}

theorem nrBound_of_ne_nbind (s : State) (hi : i ≠ .nbind) :
    s.nrBound = (s.nrBound || decide (i = .nbind)) := by
  rw [decide_eq_false hi, Bool.or_false]

/-- A command other than `NBIND` may do nothing but respond. -/
theorem AnswersSpecified.of_respond (hi : i ≠ .nbind) (x y : Word)
    (h : ∀ k, exec i { s with draws := k }
      = .next (written s.rqV s.nrStats s.nrBound x y { s with draws := k })) :
    AnswersSpecified i s :=
  ⟨_, _, _, x, y, ⟨.inl rfl, .inl rfl, .inl rfl, nrBound_of_ne_nbind s hi⟩, h⟩

/-- A command from `RCONS` on other than `NBIND` may write `RQ_V` beside its response (R23). -/
theorem AnswersSpecified.of_rqV (hop : 0x40 ≤ i.opcode.toNat) (hi : i ≠ .nbind) (w : Word64)
    (x y : Word)
    (h : ∀ k, exec i { s with draws := k }
      = .next (written w s.nrStats s.nrBound x y { s with draws := k })) :
    AnswersSpecified i s :=
  ⟨w, _, _, x, y, ⟨.inr ⟨hop, hi⟩, .inl rfl, .inl rfl, nrBound_of_ne_nbind s hi⟩, h⟩

/-- `NSEED` and `NSELECT` may write the counters too (R24). -/
theorem AnswersSpecified.of_nrStats (hop : i.opcode = 0x51#8 ∨ i.opcode = 0x52#8) (w : Word64)
    {v : Counters} (hv : counterAt v 15 = counterAt s.nrStats 15 ∨ counterAt v 15 = 0) (x y : Word)
    (h : ∀ k, exec i { s with draws := k }
      = .next (written w v s.nrBound x y { s with draws := k })) :
    AnswersSpecified i s := by
  have hle : 0x40 ≤ i.opcode.toNat := by
    rcases hop with hop | hop
    · rw [hop]; decide
    · rw [hop]; decide
  have hi : i ≠ .nbind := by
    rintro rfl
    exact absurd hop (by decide)
  exact ⟨w, v, _, x, y, ⟨.inr ⟨hle, hi⟩, .inr hop, hv, nrBound_of_ne_nbind s hi⟩, h⟩

end

/-- A selection changes the counters of offered slots, which slot 15 never is (R188, R190). -/
theorem counterAt_tally_fifteen (v : Counters) (n : Word) (chosen : Nat) :
    counterAt (tally v (offeredSlots n) chosen) 15 = counterAt v 15 := by
  have hle := (offeredSlots_le n).1
  rw [counterAt_tally v _ chosen (show 15 < 16 by omega), if_neg (by omega)]

/-- A bound `NSELECT` answers as specified, with slots offered or without (R186). -/
theorem answersSpecified_nselect (n maxMisses : Word) {s : State} (hb : s.nrBound = true) :
    AnswersSpecified (.nselect n maxMisses) s := by
  by_cases hn : n = 0
  · subst hn
    exact .of_respond nofun _ _ fun k => exec_nselect_zero (s := { s with draws := k }) maxMisses hb
  · obtain ⟨chosen, w, -, hsel⟩ :=
      selectWith_of_ne_zero (next32 s.params) maxMisses s.nrStats s.rqV hn
    exact .of_nrStats (.inr rfl) w (.inl (counterAt_tally_fifteen s.nrStats n chosen)) _ _ fun k =>
      exec_nselect_of_selection (s := { s with draws := k }) n maxMisses hb hsel

/-! ### Every command, inside its contract and outside -/

/-- Inside its contract a command answers as specified (R233, R238). -/
theorem answersSpecified_of_inContract {i : Instr} {s : State}
    (h : Safety.inContract i s = true) : AnswersSpecified i s := by
  cases i with
  | wmoddiv a c m =>
    exact .of_respond nofun _ _ fun k => exec_wmoddiv_of_lt c _ (of_decide_eq_true h)
  | shl | shr | rotl | rotr =>
    exact .of_respond nofun _ _ fun k =>
      congrArg Host.Outcome.next (answerShift_of_lt _ _ _ _ (of_decide_eq_true h))
  | divs a v =>
    exact .of_respond nofun (divScalarSigned s.params.divsNeg1Negates a v).hi
      (divScalarSigned s.params.divsNeg1Negates a v).lo fun _ => rfl
  | rcons seed =>
    exact .of_rqV (Nat.le_of_ble_eq_true rfl) nofun (constructState s.params seed) 0 0 fun _ => rfl
  | rseed seed =>
    exact .of_rqV (Nat.le_of_ble_eq_true rfl) nofun (seedState seed) 0 0 fun _ => rfl
  | rreset =>
    exact .of_rqV (Nat.le_of_ble_eq_true rfl) nofun s.params.ranq1Const 0 0 fun _ => rfl
  | rnext64 =>
    exact .of_rqV (Nat.le_of_ble_eq_true rfl) nofun (advance s.params s.rqV)
      (advance s.params s.rqV).hi (advance s.params s.rqV).lo fun _ => rfl
  | rnext32 =>
    exact .of_rqV (Nat.le_of_ble_eq_true rfl) nofun (advance s.params s.rqV)
      0 (advance s.params s.rqV).lo fun _ => rfl
  | nbind =>
    exact ⟨s.rqV, s.nrStats, true, 0, 0,
      ⟨.inl rfl, .inl rfl, .inl rfl, (Bool.or_true _).symm⟩, fun _ => rfl⟩
  | nseed seed =>
    exact .of_nrStats (.inl rfl) (seedState seed) (.inr (counterAt_zeros 15)) 0 0 fun k =>
      exec_nseed_of_bound (s := { s with draws := k }) seed h
  | nselect n maxMisses => exact answersSpecified_nselect n maxMisses h
  -- the other commands compute their answer from their operands alone (R28)
  | _ => exact .of_respond nofun _ _ fun _ => rfl

/-- Outside its contract a command raises `Unbound` or answers two free values (R90, R137, R202). -/
theorem exec_of_not_inContract {i : Instr} {s : State} (h : Safety.inContract i s = false) :
    i ≠ .nbind ∧
      ((∀ k, exec i { s with draws := k } = .next (raise .unbound { s with draws := k })) ∨
        ∀ k, exec i { s with draws := k } = .next (answerFree { s with draws := k })) := by
  cases i with
  | wmoddiv a c m =>
    exact ⟨nofun, .inr fun k =>
      exec_wmoddiv_of_le c _ (BitVec.not_lt.mp (of_decide_eq_false h))⟩
  | shl | shr | rotl | rotr =>
    exact ⟨nofun, .inr fun k => congrArg Host.Outcome.next
      (answerShift_of_ge _ _ _ _ (Nat.le_of_not_lt (of_decide_eq_false h)))⟩
  | nseed seed =>
    exact ⟨nofun, .inl fun k => exec_nseed_of_unbound (s := { s with draws := k }) seed h⟩
  | nselect n maxMisses =>
    exact ⟨nofun, .inl fun k =>
      exec_nselect_of_unbound (s := { s with draws := k }) n maxMisses h⟩
  -- every other command is inside its contract always
  | _ => cases h

/-- A command completes, takes no input and gives one response (R45, R236). -/
theorem exec_responds (i : Instr) (s : State) :
    ∃ t a, exec i s = .next t ∧ t.pending = s.pending ∧ t.responses = s.responses ++ [a] := by
  cases hc : Safety.inContract i s with
  | true =>
    obtain ⟨w, v, b, x, y, -, hexec⟩ := answersSpecified_of_inContract hc
    exact ⟨_, _, hexec s.draws, rfl, rfl⟩
  | false =>
    obtain ⟨-, hraise | hfree⟩ := exec_of_not_inContract hc
    · exact ⟨_, _, hraise s.draws, rfl, rfl⟩
    · exact ⟨_, _, hfree s.draws, rfl, rfl⟩

/-- The two states agree but for the result ports of their responses and the free values used. -/
def SameButPorts (t t' : State) : Prop :=
  t'.rqV = t.rqV ∧ t'.nrStats = t.nrStats ∧ t'.nrBound = t.nrBound ∧ t'.params = t.params ∧
    t'.pending = t.pending ∧ t'.responses.map (·.status) = t.responses.map (·.status)

/-- Which free values come next shows in no state a command leaves (R237). -/
theorem exec_sameButPorts (i : Instr) (s : State) (k : Nat) :
    ∃ t t', exec i s = .next t ∧ exec i { s with draws := k } = .next t' ∧ SameButPorts t t' := by
  cases hc : Safety.inContract i s with
  | true =>
    obtain ⟨w, v, b, x, y, -, hexec⟩ := answersSpecified_of_inContract hc
    exact ⟨_, _, hexec s.draws, hexec k, rfl, rfl, rfl, rfl, rfl, rfl⟩
  | false =>
    obtain ⟨-, hraise | hfree⟩ := exec_of_not_inContract hc
    · exact ⟨_, _, hraise s.draws, hraise k, rfl, rfl, rfl, rfl, rfl, rfl⟩
    · refine ⟨_, _, hfree s.draws, hfree k, rfl, rfl, rfl, rfl, rfl, ?_⟩
      simp only [answerFree_eq, List.map_append, List.map_cons]

/-- No command changes the parameters, and slot 15 stays as it is or is cleared (R188, R237). -/
theorem exec_keeps_invariant {i : Instr} {s t : State} (hinv : Safety.invariantHolds s)
    (h : exec i s = .next t) : Safety.invariantHolds t := by
  obtain ⟨hparams, hslot⟩ := hinv
  cases hc : Safety.inContract i s with
  | true =>
    obtain ⟨w, v, b, x, y, hmay, hexec⟩ := answersSpecified_of_inContract hc
    cases h.symm.trans (hexec s.draws)
    exact ⟨hparams, hmay.slot15.elim (·.trans hslot) id⟩
  | false =>
    obtain ⟨-, hraise | hfree⟩ := exec_of_not_inContract hc
    · cases h.symm.trans (hraise s.draws)
      exact ⟨hparams, hslot⟩
    · cases h.symm.trans (hfree s.draws)
      exact ⟨hparams, hslot⟩

/-! ### The step without a command, and a run of commands -/

section

variable {s : State} {rest : List Input}

theorem step_of_pending_nil (hp : s.pending = []) : step s = .next s := by
  simp only [step, nextTask, hp, waitForCommand]

theorem step_of_reset {x : Input} (hp : s.pending = x :: rest)
    (hx : x = .reset ∨ ∃ r, x = .resetDuring r) :
    step s = .next (resetEvent (s.setPending rest)) := by
  rcases hx with rfl | ⟨r, rfl⟩
  · simp only [step, nextTask, hp]
  · simp only [step, nextTask, hp]

/-- The step of a presented record takes it and gives one response, legal or not (R45, R201). -/
theorem step_responds {r : CommandRecord} (hp : s.pending = .command r :: rest) :
    ∃ t a, step s = .next t ∧ t.pending = rest ∧ t.responses = s.responses ++ [a] := by
  cases hd : decode r with
  | command i =>
    rw [step_of_decode_command hp hd]
    exact exec_responds i (s.setPending rest)
  | illegal op => exact ⟨_, _, step_of_decode_illegal hp hd, rfl, rfl⟩

end

/-- The reset's generator state is the constructor's with seed 0 (R220). -/
theorem constructState_zero (p : Config.Params) :
    constructState p 0 = advance p p.ranq1Const := by
  have hseed : p.ranq1Const.lo ^^^ 0 = p.ranq1Const.lo := BitVec.xor_zero
  rw [constructState, hseed]

theorem resetEvent_keeps_invariant {s : State} (hparams : s.params.wellFormed = true) :
    Safety.invariantHolds (resetEvent s) := ⟨hparams, counterAt_zeros 15⟩

/-- A run goes on from the state its first step leaves. -/
theorem run_succ_of_step {s t : State} (k : Nat) (h : step s = .next t) :
    Sys2Proof.core.run (k + 1) s = Sys2Proof.core.run k t := by
  have hstep : Sys2Proof.core.step s = .next t := h
  simp only [Host.Core.run, hstep]

/-! ### The statements -/

/-- Settles O56: a step waits, runs one command, raises an error, or resets, and each keeps the
invariant. -/
theorem everyStepKeepsTheInvariant : Obligations.EveryStepKeepsTheInvariant := by
  intro s t hinv hstep
  rcases nextTask_cases s with ⟨hp, -⟩ | ⟨r, rest, i, hp, hd, -⟩ | ⟨r, rest, op, hp, hd, -⟩ |
    ⟨x, rest, hp, hx, -⟩
  · cases hstep.symm.trans (step_of_pending_nil hp)
    exact hinv
  · rw [step_of_decode_command hp hd] at hstep
    exact exec_keeps_invariant (s := s.setPending rest) hinv hstep
  · cases hstep.symm.trans (step_of_decode_illegal hp hd)
    exact hinv
  · cases hstep.symm.trans (step_of_reset hp hx)
    exact resetEvent_keeps_invariant (s := s.setPending rest) hinv.1

/-- Settles O9: the four cases of a step, and the step of a presented record. -/
theorem everyCommandGetsOneResponse : Obligations.EveryCommandGetsOneResponse := by
  refine ⟨fun s => ?_, fun s r rest => step_responds⟩
  rcases nextTask_cases s with ⟨hp, -⟩ | ⟨r, rest, -, hp, -⟩ | ⟨r, rest, -, hp, -⟩ |
    ⟨x, rest, hp, hx, -⟩
  · exact ⟨_, step_of_pending_nil hp⟩
  · obtain ⟨t, -, hstep, -⟩ := step_responds hp
    exact ⟨t, hstep⟩
  · obtain ⟨t, -, hstep, -⟩ := step_responds hp
    exact ⟨t, hstep⟩
  · exact ⟨_, step_of_reset hp hx⟩

/-- Settles O10, by induction on the presented records: each step takes the first and gives its
response. -/
theorem runOfCommandsCompletesInOneStepEach : Obligations.RunOfCommandsCompletesInOneStepEach := by
  intro cs rest
  induction cs with
  | nil => exact fun s hp => ⟨s, [], rfl, hp, rfl, (List.append_nil _).symm⟩
  | cons c cs ih =>
    intro s hp
    obtain ⟨u, a, hstep, hpu, hru⟩ := step_responds hp
    obtain ⟨t, rs, hrun, hpt, hlen, hrt⟩ := ih u hpu
    refine ⟨t, a :: rs, (run_succ_of_step cs.length hstep).trans hrun, hpt,
      congrArg Nat.succ hlen, ?_⟩
    rw [hrt, hru, List.append_assoc, List.singleton_append]

/-- Settles O11: both reset inputs lead to the reset event, whose seed is 0. -/
theorem resetEventLeavesTheResetState : Obligations.ResetEventLeavesTheResetState := by
  intro s x rest hp hx
  rw [step_of_reset hp hx, resetEvent_eq, constructState_zero]
  rfl

/-- Settles O55: what a command may write is what the statement names, and outside the contract it
writes no item of the block. -/
theorem onlyTheNamedCommandsWriteState : Obligations.OnlyTheNamedCommandsWriteState := by
  intro i s t h
  cases hc : Safety.inContract i s with
  | true =>
    obtain ⟨w, v, b, x, y, hmay, hexec⟩ := answersSpecified_of_inContract hc
    cases h.symm.trans (hexec s.draws)
    exact ⟨hmay.rqV, hmay.nrStats, hmay.nrBound, rfl, rfl, .inl rfl⟩
  | false =>
    obtain ⟨hi, hraise | hfree⟩ := exec_of_not_inContract hc
    · cases h.symm.trans (hraise s.draws)
      exact ⟨.inl rfl, .inl rfl, nrBound_of_ne_nbind s hi, rfl, rfl, .inr rfl⟩
    · cases h.symm.trans (hfree s.draws)
      exact ⟨.inl rfl, .inl rfl, nrBound_of_ne_nbind s hi, rfl, rfl, .inr rfl⟩

/-- Settles O58: only a command draws free values, and they show in its result ports alone. -/
theorem freeValuesNeverReachTheState : Obligations.FreeValuesNeverReachTheState := by
  intro s k
  rcases nextTask_cases s with ⟨hp, -⟩ | ⟨r, rest, i, hp, hd, -⟩ | ⟨r, rest, op, hp, hd, -⟩ |
    ⟨x, rest, hp, hx, -⟩
  · exact ⟨_, _, step_of_pending_nil hp, step_of_pending_nil (s := { s with draws := k }) hp,
      rfl, rfl, rfl, rfl, rfl, rfl⟩
  · rw [step_of_decode_command hp hd, step_of_decode_command (s := { s with draws := k }) hp hd]
    exact exec_sameButPorts i (s.setPending rest) k
  · exact ⟨_, _, step_of_decode_illegal hp hd,
      step_of_decode_illegal (s := { s with draws := k }) hp hd, rfl, rfl, rfl, rfl, rfl, rfl⟩
  · exact ⟨_, _, step_of_reset hp hx, step_of_reset (s := { s with draws := k }) hp hx,
      rfl, rfl, rfl, rfl, rfl, rfl⟩

/-- Settles O59: inside its contract a command answers as specified. -/
theorem inContractCommandsAreSpecified : Obligations.InContractCommandsAreSpecified := by
  intro i s hc
  obtain ⟨w, v, b, x, y, -, hexec⟩ := answersSpecified_of_inContract hc
  exact ⟨written w v b x y s, x, y, hexec s.draws, rfl, rfl, hexec⟩

/-- Settles O6: the task of such a step is to run the command. -/
theorem stepRunsTheDecodedCommand : Obligations.StepRunsTheDecodedCommand :=
  fun _ _ _ _ hp hd _ => step_of_decode_command hp hd

/-- Settles O13: the task of such a step is to wait. -/
theorem idleStepChangesNothing : Obligations.IdleStepChangesNothing := fun _ => step_of_pending_nil

/-- Settles O12: the generator evaluated on the default constants, and sixteen zero counters. -/
theorem resetStateIsTheTable : Obligations.ResetStateIsTheTable :=
  ⟨rfl, by decide, fun i _ => counterAt_zeros i, rfl, rfl, rfl⟩

/-- Settles O57: the default constants are odd, and the reset counters are zero. -/
theorem resetStateMeetsTheInvariant : Obligations.ResetStateMeetsTheInvariant :=
  ⟨by decide, counterAt_zeros 15⟩

end Sys2Proof.Machine


/-!
SUPPORT. Two computations on Word64 read on values: a quotient multiplied back (R115), and the
xorshifts and the product of the generator (R160).
-/

namespace Sys2Proof.Word64

/-- `^` on Word64 is `^` on the values (R17). -/
theorem val_xor (a b : Word64) : (a.xor b).val = a.val ^^^ b.val :=
  Nat.eq_of_testBit_eq fun i => by rw [testBit_val_xor, Nat.testBit_xor]

end Sys2Proof.Word64

namespace Sys2Proof.Machine

theorem val_shl64 (a : Word64) (n : Nat) : (shl64 a n).val = a.val * 2 ^ n % 2 ^ 64 := by
  rw [shl64_eq_ofNat, Word64.val_ofNat]

theorem val_shr64 (a : Word64) (n : Nat) : (shr64 a n).val = a.val / 2 ^ n := by
  rw [shr64_eq_ofNat, Word64.val_ofNat]
  exact Nat.mod_eq_of_lt ((Nat.div_le_self _ _).trans_lt a.val_lt)

theorem val_mulWord64 (a b : Word64) : (mulWord64 a b).val = a.val * b.val % 2 ^ 64 := by
  rw [mulWord64_eq_ofNat, Word64.val_ofNat]

/-- The quotient times the divisor is the dividend less its remainder (R115). -/
theorem mulScalar_divScalar {v : Word} (a : Word64) (h : 0 < v.toNat) :
    mulScalar (divScalar a v) v = Word64.ofNat (a.val - a.val % v.toNat) := by
  rw [mulScalar_eq_ofNat, val_divScalar a h, Nat.div_mul_self_eq_mod_sub_self]

/-- Settles O27: the exact quotient times the divisor, which fits in a Word64 again. -/
theorem multiplyingAQuotientBack : Obligations.MultiplyingAQuotientBack := by
  intro a v s hv
  have hback := mulScalar_divScalar a (show 0 < v.toNat by omega)
  refine ⟨_, _, exec_divu a v s, exec_mulu _ v s, hback, fun hexact => ?_⟩
  rw [hback, hexact, Nat.sub_zero, Word64.ofNat_val]

/-- Settles O41: each line of `advance` is the same operation on values. -/
theorem advanceIsXorshiftMultiply : Obligations.AdvanceIsXorshiftMultiply := by
  rintro p v _ _ _ rfl rfl rfl
  simp only [advance, val_mulWord64, Word64.val_xor, val_shr64, val_shl64]

end Sys2Proof.Machine


/-!
SUPPORT. The datapath of four partial products (R83): what its carry words are worth, so that its
two words make up the exact product and addend.
-/

namespace Sys2Proof.Machine

/-- The low 16 bits of a word, as a word (R83). -/
def lowHalf (x : Word) : Word := (x.extractLsb' 0 16).setWidth 32

/-- The high 16 bits of a word, as a word (R83). -/
def highHalf (x : Word) : Word := (x.extractLsb' 16 16).setWidth 32

theorem lowHalf_toNat (x : Word) : (lowHalf x).toNat = x.toNat % 2 ^ 16 := by
  rw [lowHalf, BitVec.toNat_setWidth, BitVec.extractLsb'_toNat, Nat.shiftRight_zero]
  omega

theorem highHalf_toNat (x : Word) : (highHalf x).toNat = x.toNat / 2 ^ 16 := by
  have hx := x.isLt
  rw [highHalf, BitVec.toNat_setWidth, BitVec.extractLsb'_toNat, Nat.shiftRight_eq_div_pow]
  omega

theorem lowHalf_lt (x : Word) : (lowHalf x).toNat < 2 ^ 16 := by
  rw [lowHalf_toNat]
  omega

theorem highHalf_lt (x : Word) : (highHalf x).toNat < 2 ^ 16 := by
  have hx := x.isLt
  rw [highHalf_toNat]
  omega

/-- Two 16-bit factors do not overflow a word (R83). -/
theorem mul_toNat_of_lt {x y : Word} (hx : x.toNat < 2 ^ 16) (hy : y.toNat < 2 ^ 16) :
    (x * y).toNat = x.toNat * y.toNat := by
  rw [BitVec.toNat_mul]
  exact Nat.mod_eq_of_lt ((Nat.mul_lt_mul'' hx hy).trans_eq (by norm_num))

/-- The carry of a sum is also detected from its second addend (R83). -/
theorem add_toNat_carryOut_right (x y : Word) :
    (x + y).toNat + (carryOut (x + y) y).toNat * 2 ^ 32 = x.toNat + y.toNat := by
  rw [BitVec.add_comm x y, add_toNat_carryOut, Nat.add_comm]

/-- A pair of words is determined by the number its words make up. -/
theorem pair_eq_of_toNat_eq {p p' : Word × Word}
    (h : p.1.toNat * 2 ^ 32 + p.2.toNat = p'.1.toNat * 2 ^ 32 + p'.2.toNat) : p = p' := by
  have hp := p.2.isLt
  have hp' := p'.2.isLt
  exact Prod.ext (BitVec.eq_of_toNat_eq (by omega)) (BitVec.eq_of_toNat_eq (by omega))

/-- The words R83 makes of the four partial products and the addend. -/
def combineProducts (ll lh hl hh c : Word) : Word × Word :=
  let mid := lh + hl
  let s := ll + (mid <<< 16)
  let r := s + c
  (hh + (mid >>> 16) + (carryOut mid lh <<< 16) + carryOut s ll + carryOut r c, r)

theorem wideMulAddDatapath_eq (a b c : Word) :
    wideMulAddDatapath a b c =
      combineProducts (lowHalf a * lowHalf b) (lowHalf a * highHalf b) (highHalf a * lowHalf b)
        (highHalf a * highHalf b) c := rfl

/-- Each carry word is worth the bit its sum lost, so modulo 2^64 the two words make up the whole
sum of the products at their places (R83). -/
theorem combineProducts_toNat (ll lh hl hh c : Word) :
    (combineProducts ll lh hl hh c).1.toNat * 2 ^ 32 + (combineProducts ll lh hl hh c).2.toNat
      = (hh.toNat * 2 ^ 32 + (lh.toNat + hl.toNat) * 2 ^ 16 + ll.toNat + c.toNat) % 2 ^ 64 := by
  have hmid := add_toNat_carryOut lh hl
  have hs := add_toNat_carryOut ll ((lh + hl) <<< 16)
  have hr := add_toNat_carryOut_right (ll + ((lh + hl) <<< 16)) c
  have hrlt := (ll + ((lh + hl) <<< 16) + c).isLt
  simp only [combineProducts, BitVec.toNat_add _ (carryOut _ _), BitVec.toNat_add hh,
    BitVec.toNat_add _ (_ <<< _), BitVec.toNat_shiftLeft, BitVec.toNat_ushiftRight,
    Nat.shiftLeft_eq, Nat.shiftRight_eq_div_pow] at hs hr hrlt ⊢
  omega

/-- Multiplying out the halves of the two factors (R83). -/
theorem mul_eq_partial_products (x y : Nat) :
    x * y = x / 2 ^ 16 * (y / 2 ^ 16) * 2 ^ 32
      + (x % 2 ^ 16 * (y / 2 ^ 16) + x / 2 ^ 16 * (y % 2 ^ 16)) * 2 ^ 16
      + x % 2 ^ 16 * (y % 2 ^ 16) := by
  conv_lhs => rw [← Nat.div_add_mod x (2 ^ 16), ← Nat.div_add_mod y (2 ^ 16)]
  ring

/-- No partial product overflows its word, and the whole sum fits in the two words (R82, R83). -/
theorem wideMulAddDatapath_toNat (a b c : Word) :
    (wideMulAddDatapath a b c).1.toNat * 2 ^ 32 + (wideMulAddDatapath a b c).2.toNat
      = a.toNat * b.toNat + c.toNat := by
  rw [wideMulAddDatapath_eq, combineProducts_toNat,
    mul_toNat_of_lt (lowHalf_lt a) (lowHalf_lt b), mul_toNat_of_lt (lowHalf_lt a) (highHalf_lt b),
    mul_toNat_of_lt (highHalf_lt a) (lowHalf_lt b), mul_toNat_of_lt (highHalf_lt a) (highHalf_lt b)]
  simp only [lowHalf_toNat, highHalf_toNat, ← mul_eq_partial_products]
  exact Nat.mod_eq_of_lt (mul_add_lt_two_pow_64 a b c)

/-- Settles O15: the datapath and `wideMulAdd` make up the same number. -/
theorem partialProductDatapathIsExact : Obligations.PartialProductDatapathIsExact :=
  fun a b c => ⟨wideMulAddDatapath_toNat a b c,
    pair_eq_of_toNat_eq ((wideMulAddDatapath_toNat a b c).trans (wideMulAdd_toNat a b c).symm)⟩

end Sys2Proof.Machine


/-!
SUPPORT. The restoring divider (R88) as long division: one iteration divides a 33-bit number by the
modulus and leaves the rest of the dividend to the iterations after it.
-/

namespace Sys2Proof.Machine

/-- Shifting a bit in at the bottom of a word loses the word's top bit only (R88). -/
theorem shiftLeft_one_or_toNat (w : Word) {b : Word} (hb : b.toNat < 2) :
    ((w <<< 1) ||| b).toNat = (2 * w.toNat + b.toNat) % 2 ^ 32 := by
  have heven : w.toNat <<< 1 % 2 ^ 32 = (w.toNat % 2 ^ 31) <<< 1 := by
    rw [Nat.shiftLeft_eq, Nat.shiftLeft_eq]
    omega
  rw [BitVec.toNat_or, BitVec.toNat_shiftLeft, heven, ← Nat.shiftLeft_add_eq_or_of_lt hb,
    Nat.shiftLeft_eq]
  omega

/-- The shifted remainder of one iteration with its carry, a 33-bit number (R88). -/
def shiftedRemainder (d : DividerRegs) : Nat := 2 * d.rem.toNat + d.lo.toNat / 2 ^ 31

theorem shiftLeft_one_or_lo_toNat (d : DividerRegs) :
    ((d.rem <<< 1) ||| (d.lo >>> 31)).toNat = shiftedRemainder d % 2 ^ 32 := by
  have hlo := d.lo.isLt
  have htop : (d.lo >>> 31).toNat = d.lo.toNat / 2 ^ 31 := by
    rw [BitVec.toNat_ushiftRight, Nat.shiftRight_eq_div_pow]
  rw [shiftLeft_one_or_toNat _ (by omega), htop, shiftedRemainder]

/-- The carry and the comparison together ask whether the 33-bit remainder reaches `m` (R88). -/
theorem dividerIteration_eq (m : Word) (d : DividerRegs) :
    dividerIteration m d =
      if m.toNat ≤ shiftedRemainder d then
        ⟨((d.rem <<< 1) ||| (d.lo >>> 31)) - m, d.lo <<< 1, (d.q <<< 1) ||| 1⟩
      else ⟨(d.rem <<< 1) ||| (d.lo >>> 31), d.lo <<< 1, d.q <<< 1⟩ := by
  have hm := m.isLt
  have hlo := d.lo.isLt
  have hcarry := signBit_iff d.rem
  have hshift := shiftLeft_one_or_lo_toNat d
  refine if_congr ?_ rfl rfl
  rw [Bool.or_eq_true, decide_eq_true_iff, BitVec.le_def, hshift, ← signBit, hcarry,
    shiftedRemainder]
  omega

/-- One iteration on integers: it divides the 33-bit remainder, which is less than `2 * m`, by `m`
and shifts the quotient in (R88). -/
theorem dividerIteration_toNat {m : Word} {d : DividerRegs} (h : d.rem < m) :
    (dividerIteration m d).rem.toNat = shiftedRemainder d % m.toNat ∧
    (dividerIteration m d).lo.toNat = 2 * d.lo.toNat % 2 ^ 32 ∧
    (dividerIteration m d).q.toNat
      = (2 * d.q.toNat + shiftedRemainder d / m.toNat) % 2 ^ 32 := by
  have hrem : d.rem.toNat < m.toNat := h
  have hm := m.isLt
  have hlo := d.lo.isLt
  have hshift := shiftLeft_one_or_lo_toNat d
  have hlt : shiftedRemainder d < 2 * m.toNat := by
    unfold shiftedRemainder
    omega
  have hloshift : (d.lo <<< 1).toNat = 2 * d.lo.toNat % 2 ^ 32 := by
    rw [BitVec.toNat_shiftLeft, Nat.shiftLeft_eq, Nat.mul_comm]
  rw [dividerIteration_eq]
  split_ifs with hle
  · obtain ⟨hdiv, hmod⟩ := (Nat.div_mod_unique (a := shiftedRemainder d) (b := m.toNat) (d := 1)
      (c := shiftedRemainder d - m.toNat) (by omega)).mpr ⟨by omega, by omega⟩
    refine ⟨?_, hloshift, ?_⟩
    · rw [BitVec.toNat_sub, hshift, hmod]
      omega
    · rw [shiftLeft_one_or_toNat _ (by decide), hdiv]
      rfl
  · rw [Nat.div_eq_of_lt (by omega), Nat.mod_eq_of_lt (by omega), hshift]
    refine ⟨Nat.mod_eq_of_lt (by omega), hloshift, ?_⟩
    rw [BitVec.toNat_shiftLeft, Nat.shiftLeft_eq, Nat.mul_comm, Nat.add_zero]

/-- What the next `k` iterations divide: the remainder followed by the top `k` bits of `lo`. -/
def remainingDividend (k : Nat) (d : DividerRegs) : Nat :=
  d.rem.toNat * 2 ^ k + d.lo.toNat / 2 ^ (32 - k)

/-- Of a word's top `k + 1` bits the first goes into the remainder and `k` are left (R88). -/
theorem top_bits_succ {l k : Nat} (hk : k < 32) :
    l / 2 ^ (32 - (k + 1)) = l / 2 ^ 31 * 2 ^ k + 2 * l % 2 ^ 32 / 2 ^ (32 - k) := by
  obtain ⟨e, he⟩ : ∃ e, 31 = k + e := ⟨31 - k, by omega⟩
  have hleft : 32 - (k + 1) = e := by omega
  have hright : 32 - k = e + 1 := by omega
  have hlow : 2 * l % 2 ^ 32 / 2 ^ (32 - k) = l % 2 ^ 31 / 2 ^ e := by
    rw [hright, show 2 * l % 2 ^ 32 = 2 * (l % 2 ^ 31) by omega, pow_succ' 2 e,
      Nat.mul_div_mul_left _ _ Nat.two_pos]
  have hsplit : l = l / 2 ^ 31 * 2 ^ k * 2 ^ e + l % 2 ^ 31 := by
    rw [Nat.mul_assoc, ← Nat.pow_add, ← he, Nat.div_add_mod']
  rw [hlow, hleft]
  conv_lhs => rw [hsplit, Nat.mul_comm, Nat.mul_add_div (Nat.two_pow_pos e)]

/-- Long division takes the leading digits first. -/
theorem mul_add_div_eq (x p t : Nat) {m : Nat} (hm : 0 < m) :
    (x * p + t) / m = x / m * p + (x % m * p + t) / m := by
  have hx : x * p + t = x % m * p + t + m * (x / m * p) := by
    conv_lhs => rw [← Nat.mod_add_div x m]
    ring
  rw [hx, Nat.add_mul_div_left _ _ hm, Nat.add_comm]

theorem mul_add_mod_eq (x p t m : Nat) : (x * p + t) % m = (x % m * p + t) % m :=
  (((Nat.mod_modEq x m).mul_right p).add_right t).symm

/-- By induction on the iterations: `k` of them divide the remaining dividend by `m` (R88). -/
theorem dividerLoop_toNat {m : Word} {k : Nat} {d : DividerRegs} (hk : k ≤ 32) (h : d.rem < m) :
    (dividerLoop m k d).rem.toNat = remainingDividend k d % m.toNat ∧
    (dividerLoop m k d).q.toNat
      = (d.q.toNat * 2 ^ k + remainingDividend k d / m.toNat) % 2 ^ 32 := by
  induction k generalizing d with
  | zero =>
    have hrem : d.rem.toNat < m.toNat := h
    have hall : remainingDividend 0 d = d.rem.toNat := by
      rw [remainingDividend, Nat.pow_zero, Nat.mul_one]
      exact Nat.add_eq_left.mpr (Nat.div_eq_of_lt d.lo.isLt)
    rw [hall, Nat.mod_eq_of_lt hrem, Nat.div_eq_of_lt hrem, Nat.pow_zero, Nat.mul_one,
      Nat.add_zero, Nat.mod_eq_of_lt d.q.isLt]
    exact ⟨rfl, rfl⟩
  | succ k ih =>
    have hm : 0 < m.toNat := Nat.zero_lt_of_lt h
    obtain ⟨hrem, hlo, hq⟩ := dividerIteration_toNat h
    have hlt : (dividerIteration m d).rem < m := by
      rw [BitVec.lt_def, hrem]
      exact Nat.mod_lt _ hm
    obtain ⟨hrem', hq'⟩ := ih (by omega) hlt
    have hnext : remainingDividend k (dividerIteration m d)
        = shiftedRemainder d % m.toNat * 2 ^ k + 2 * d.lo.toNat % 2 ^ 32 / 2 ^ (32 - k) := by
      rw [remainingDividend, hrem, hlo]
    have hsucc : remainingDividend (k + 1) d
        = shiftedRemainder d * 2 ^ k + 2 * d.lo.toNat % 2 ^ 32 / 2 ^ (32 - k) := by
      rw [remainingDividend, top_bits_succ (by omega), shiftedRemainder]
      ring
    rw [dividerLoop, hrem', hq', hnext, hsucc, hq]
    refine ⟨(mul_add_mod_eq _ _ _ _).symm, ?_⟩
    rw [← mul_add_mod_eq, mul_add_div_eq (shiftedRemainder d) _ _ hm]
    ring_nf

/-- Settles O17: from `a < m` the 32 iterations divide all of `a * 2^32 + c`. -/
theorem restoringDividerRefinesDivision : Obligations.RestoringDividerRefinesDivision := by
  intro a c m h
  have hall : remainingDividend 32 ⟨a, c, 0⟩ = a.toNat * 2 ^ 32 + c.toNat := by
    rw [remainingDividend, Nat.sub_self, Nat.pow_zero, Nat.div_one]
  obtain ⟨hrem, hq⟩ := dividerLoop_toNat (k := 32) (d := ⟨a, c, 0⟩) le_rfl h
  rw [hall] at hrem hq
  have hzero : (DividerRegs.mk a c 0).q.toNat = 0 := rfl
  refine Prod.ext (BitVec.eq_of_toNat_eq ?_) (BitVec.eq_of_toNat_eq ?_)
  · rw [wideModDiv, BitVec.toNat_ofNat, restoringDivide, hq, hzero, Nat.zero_mul,
      Nat.zero_add]
  · rw [wideModDiv_snd_toNat c h, restoringDivide, hrem]

end Sys2Proof.Machine
